-- ==== Sys2Proof/Word.lean ====
section
/-! DEFINITION. The words of the UARTTest frame block: bytes, the widths the protocol uses, byte strings (00_scope.md
R11, R13). -/

namespace Sys2Proof

/-- A byte: 8 bits (R11). -/
abbrev Byte := BitVec 8

/-- `u16` of R13: addresses, indices, counts, the CRC register. -/
abbrev U16 := BitVec 16

/-- `u32` of R13: the 4-byte wire form of a typed value read as one number. -/
abbrev U32 := BitVec 32

/-- A byte string (R11): a finite sequence of bytes, the first at offset 0. -/
abbrev Bytes := List Byte

end Sys2Proof
end

