-- ==== Sys2Proof/Config.lean ====
section
/-! DEFINITION. The constants the source fixes (00_scope.md R8), the parameters it leaves open (R9), and the free values:
constants without a body, so that nothing can be proved of what they are. -/

namespace Sys2Proof

/-- `HEAD` (R8, R81): the first byte of every frame. -/
abbrev Config.head : Byte := 0x5A#8

/-- `MIN_FRAME` (R8): bytes of a frame with empty payload. -/
abbrev Config.minFrame : Nat := 6

/-- `CRC_POLY` (R8): the CRC generator polynomial. -/
abbrev Config.crcPoly : U16 := 0x1021#16

/-- `PACKET_SIZE` (R8): bytes of image per upgrade packet. -/
abbrev Config.packetSize : Nat := 2048

/-- `REPORT_RECORD_BYTES` (R8): bytes of one report record. -/
abbrev Config.reportRecordBytes : Nat := 6

/-- `ACK_DATA_LEN` (R8): required payload length of `ACK_WITH_DATA`. -/
abbrev Config.ackDataLen : Nat := 6

/-- `ACK_NODATA_LEN` (R8): required payload length of `ACK_NO_DATA`. -/
abbrev Config.ackNoDataLen : Nat := 2

/-- The largest value of the 2-byte length field (R80): also the most packets a u16 count can say (R59, R131). -/
abbrev Config.maxU16 : Nat := 65535

/-- `RXBUF_CAP` (R9, D5): 65541, the largest frame.
The rules never hold more (R179), so no rule reads it; `Safety.lean` states the bound. -/
abbrev Config.rxbufCap : Nat := 65541

/-- The status code `OK` (R96), the only one the block tests for. -/
abbrev Config.statusOk : Byte := 0x00#8

/-- `UPGRADE_MODE_TAG` at reset: OPEN in the spec (R9, D21, U6), a free value (log entry 2). -/
opaque Config.upgradeModeTag : U16

/-- The oracle `hc_verdict` (R32, D8, U7) where the environment has supplied no answer: a free value, given the number
of the offer, the frame and its CRC result (log entry 5). -/
opaque Config.hcVerdict : Nat → Bytes → Bool → Bool

/-- Whether a `permission` of the item directory allows a write: the source gives neither the values of `permission` nor
the test (R61, N14), a free value of the environment (log entry 15). -/
opaque Config.writeEligible : Nat → Bool

/-- The parameters of R9 that rules of the block read: fixed for the life of a run (R23). -/
structure Params where
  /-- `CRC_INIT`: start value of the CRC register (D1). -/
  crcInit : U16
  /-- `N_PENDING`: capacity of the pending table; `none` is unbounded (D14). -/
  nPending : Option Nat
  /-- `ID_W`: width of a request id (D15). -/
  idW : Nat
  /-- `TIME_W`: width of the tick counter and of a timeout (D16). -/
  timeW : Nat
  /-- `UPGRADE_MODE_TAG`: the mode tag of an upgrade-data payload (D21). -/
  upgradeModeTag : U16
deriving DecidableEq, Repr

/-- The defaults of R9: the spec's own, but for the mode tag, which has none. -/
def Params.default : Params where
  crcInit := 0xFFFF#16
  nPending := none
  idW := 32
  timeW := 32
  upgradeModeTag := Config.upgradeModeTag

end Sys2Proof
end

