-- ==== Sys2Proof/Syntax.lean ====
section
/-! DEFINITION. The instructions of the block: one constructor for each row of spec/opcode_table.json (00_scope.md R7;
30_encoding.md R84, R105). The frame types come first, then the commands, then the inputs. -/

namespace Sys2Proof

/-- The seven declared types of a register (R98). -/
inductive DType where
  | int8 | uint8 | int16 | uint16 | int32 | uint32 | float32
deriving DecidableEq, Repr

/-- The instruction set.
A FRAME row is a candidate frame of that type (R80): its payload (whose length is the `length` field) and its received
`crc16`, valid or not. A CMD row is a command of R31 with its operands; an INPUT row is an input of R30. -/
inductive Instr where
  /-- `READ` 0x10 (R87). -/
  | read (payload : Bytes) (crc : U16)
  /-- `WRITE` 0x20 (R88). -/
  | write (payload : Bytes) (crc : U16)
  /-- `UPGRADE_DATA` 0x30 (R89). -/
  | upgradeData (payload : Bytes) (crc : U16)
  /-- `UPGRADE_CRC` 0x31 (R90). -/
  | upgradeCrc (payload : Bytes) (crc : U16)
  /-- `CONNECT` 0xE0 (R91). -/
  | connect (payload : Bytes) (crc : U16)
  /-- `MCU_RESET` 0xF0 (R92). -/
  | mcuReset (payload : Bytes) (crc : U16)
  /-- `ACK_WITH_DATA` 0x11 (R93). -/
  | ackWithData (payload : Bytes) (crc : U16)
  /-- `ACK_NO_DATA` 0xF1 (R94). -/
  | ackNoData (payload : Bytes) (crc : U16)
  /-- Device report 0x40 (R95). -/
  | report40 (payload : Bytes) (crc : U16)
  /-- Device report 0x50 (R95). -/
  | report50 (payload : Bytes) (crc : U16)
  /-- Device report 0x60 (R95). -/
  | report60 (payload : Bytes) (crc : U16)
  /-- `CRC16(bytes)` (R120). -/
  | crc16 (bytes : Bytes)
  /-- `PACK(value, type)` (R122); the value is the port's 32-bit word (D20). -/
  | pack (value : U32) (type : DType)
  /-- `UNPACK(raw, type)` (R123); the 4 bytes as one big-endian word. -/
  | unpack (raw : U32) (type : DType)
  /-- `ENCODE(function, payload)` (R124). -/
  | encode (function : Byte) (payload : Bytes)
  /-- `FRAME_CHECK(frame)` (R125). -/
  | frameCheck (frame : Bytes)
  /-- `PARSE_RESPONSE(frame, awaiting_write, expected_address, declared_type)` (R133). -/
  | parseResponse (frame : Bytes) (awaitingWrite : Bool) (expectedAddress : Option U16) (declaredType : DType)
  /-- `PARSE_REPORT(payload)` (R134). -/
  | parseReport (payload : Bytes)
  /-- `BUILD_READ(address)` (R126). -/
  | buildRead (address : U16)
  /-- `BUILD_WRITE(address, value, type)` (R127). -/
  | buildWrite (address : U16) (value : U32) (type : DType)
  /-- `BUILD_HANDSHAKE()` (R128). -/
  | buildHandshake
  /-- `BUILD_STATUS_REPLY(function_code, status_code)` (R129). -/
  | buildStatusReply (functionCode : Byte) (statusCode : Byte)
  /-- `BUILD_UPGRADE_PACKET(packet_index, chunk)` (R130). -/
  | buildUpgradePacket (packetIndex : U16) (chunk : Bytes)
  /-- `BUILD_UPGRADE_PACKETS(image)` (R131). -/
  | buildUpgradePackets (image : Bytes)
  /-- `BUILD_UPGRADE_CRC(image, packet_count)` (R132). -/
  | buildUpgradeCrc (image : Bytes) (packetCount : U16)
  /-- `ISSUE_READ(address, declared_type, timeout)` (R191). -/
  | issueRead (address : U16) (declaredType : DType) (timeout : U32)
  /-- `ISSUE_WRITE(address, value, declared_type, timeout)` (R192). -/
  | issueWrite (address : U16) (value : U32) (declaredType : DType) (timeout : U32)
  /-- `ISSUE_UPGRADE_DATA(packet_index, chunk, timeout)` (R193). -/
  | issueUpgradeData (packetIndex : U16) (chunk : Bytes) (timeout : U32)
  /-- `ISSUE_UPGRADE_CRC(image_crc, packet_count, timeout)` (R194). -/
  | issueUpgradeCrc (imageCrc : U16) (packetCount : U16) (timeout : U32)
  /-- `SEND(function, payload)` (R195). -/
  | send (function : Byte) (payload : Bytes)
  /-- `RX_PUSH(b)`, the input `RxByte(b)` (R160). -/
  | rxPush (b : Byte)
  /-- `TICK`, the input `Tick` (R200). -/
  | tick
  /-- `RESET`, the input `Reset` (R300). -/
  | reset
deriving DecidableEq, Repr

end Sys2Proof
end

