-- ==== Sys2Proof/WellFormed.lean ====
section
/-! DEFINITION. Which instructions are well formed: the operands that fit their fields. A frame's payload fits the 2-byte
length field (30_encoding.md R80); the operand limits of the commands are those of 40_codec.md R124, R130, R131 and
42_correlator.md R193, R195. -/

namespace Sys2Proof

/-- A payload that the 2-byte length field can count (R80, R124). -/
def payloadFits (payload : Bytes) : Bool := decide (payload.length ≤ Config.maxU16)

/-- A chunk that one upgrade packet can carry (R130). -/
def chunkFits (chunk : Bytes) : Bool := decide (chunk.length ≤ Config.packetSize)

/-- An image of at most 65535 packets of 2048 bytes, as many as a u16 can count (R131, D22). -/
def imageFits (image : Bytes) : Bool := decide (image.length ≤ Config.packetSize * Config.maxU16)

/-- Every operand fits its field. -/
def Instr.wellFormed : Instr → Bool
  | .read payload _ => payloadFits payload
  | .write payload _ => payloadFits payload
  | .upgradeData payload _ => payloadFits payload
  | .upgradeCrc payload _ => payloadFits payload
  | .connect payload _ => payloadFits payload
  | .mcuReset payload _ => payloadFits payload
  | .ackWithData payload _ => payloadFits payload
  | .ackNoData payload _ => payloadFits payload
  | .report40 payload _ => payloadFits payload
  | .report50 payload _ => payloadFits payload
  | .report60 payload _ => payloadFits payload
  | .crc16 _ => true
  | .pack _ _ => true
  | .unpack _ _ => true
  | .encode _ payload => payloadFits payload
  | .frameCheck _ => true
  | .parseResponse _ _ _ _ => true
  | .parseReport _ => true
  | .buildRead _ => true
  | .buildWrite _ _ _ => true
  | .buildHandshake => true
  | .buildStatusReply _ _ => true
  | .buildUpgradePacket _ chunk => chunkFits chunk
  | .buildUpgradePackets image => imageFits image
  | .buildUpgradeCrc _ _ => true
  | .issueRead _ _ _ => true
  | .issueWrite _ _ _ _ => true
  | .issueUpgradeData _ chunk _ => chunkFits chunk
  | .issueUpgradeCrc _ _ _ => true
  | .send _ payload => payloadFits payload
  | .rxPush _ => true
  | .tick => true
  | .reset => true

end Sys2Proof
end

