-- ==== Sys2Proof/Decode.lean ====
section
/-! DEFINITION. From bits to instructions and back: the byte order of the protocol (00_scope.md R11, R12; 20_memory.md R50),
the candidate frames (30_encoding.md R80 to R84, R108), the command port (R105, R106), and the encoder.

The spec numbers the operations with an 8-bit selector and gives no layout for their operands; the layout used here
is a DESIGN CHOICE (log entry 9): the selector, then the fixed operands in the spec's order, each big-endian, then the
byte string, which runs to the end of the transaction. -/

namespace Sys2Proof

/-! ### Byte strings and byte order -/

/-- `s[i]` of R11. Every use is guarded by a length test; past the end it reads as zero. -/
def byteAt (s : Bytes) (i : Nat) : Byte := s.getD i 0#8

/-- `s[i:j]` of R11: the bytes at offsets `i` to `j - 1`; empty when `j ≤ i`. -/
def slice (s : Bytes) (i j : Nat) : Bytes := (s.drop i).take (j - i)

/-- `BE16(v)` (R12): the more significant byte at the lower offset (R50). -/
def toBe16 (v : U16) : Bytes := [v.extractLsb' 8 8, v.extractLsb' 0 8]

/-- `BE32(v)` (R12). -/
def toBe32 (v : U32) : Bytes :=
  [v.extractLsb' 24 8, v.extractLsb' 16 8, v.extractLsb' 8 8, v.extractLsb' 0 8]

/-- `be16(s)` (R12), the inverse of `BE16` on 2-byte strings. -/
def be16 (s : Bytes) : U16 := byteAt s 0 ++ byteAt s 1

/-- `be32(s)` (R12), the inverse of `BE32` on 4-byte strings. -/
def be32 (s : Bytes) : U32 := byteAt s 0 ++ byteAt s 1 ++ byteAt s 2 ++ byteAt s 3

/-! ### Frames -/

/-- The frame type that a function code names: the eleven recognised codes (R84), each with its constructor. -/
def frameType (fn : Byte) : Option (Bytes → U16 → Instr) :=
  if fn = 0x10#8 then some .read
  else if fn = 0x20#8 then some .write
  else if fn = 0x30#8 then some .upgradeData
  else if fn = 0x31#8 then some .upgradeCrc
  else if fn = 0xE0#8 then some .connect
  else if fn = 0xF0#8 then some .mcuReset
  else if fn = 0x11#8 then some .ackWithData
  else if fn = 0xF1#8 then some .ackNoData
  else if fn = 0x40#8 then some .report40
  else if fn = 0x50#8 then some .report50
  else if fn = 0x60#8 then some .report60
  else none

/-- The set `RECOGNISED` (R84): the other 245 values are illegal as a function byte (R82, R100). -/
def recognised (fn : Byte) : Bool := (frameType fn).isSome

/-- The `length` field of a frame, read from its bytes 2 and 3 (R83). -/
def lengthField (f : Bytes) : Nat := (be16 (slice f 2 4)).toNat

/-- `total = 6 + length` (R83, R109), computed without wrap (R135). -/
def frameTotal (f : Bytes) : Nat := Config.minFrame + lengthField f

/-- Well-framed (R18): at least 6 bytes, the head byte first, and as many bytes as the length field says. -/
def wellFramed (f : Bytes) : Bool :=
  decide (Config.minFrame ≤ f.length) && (byteAt f 0 == Config.head) && (f.length == frameTotal f)

/-- The payload of a frame: all bytes but the first 4 and the last 2 (R80, R85). -/
def payloadOf (f : Bytes) : Bytes := slice f 4 (f.length - 2)

/-- The received `crc16` field: the last two bytes (R80, R86). -/
def crcField (f : Bytes) : U16 := be16 (slice f (f.length - 2) f.length)

/-- The decoder of candidate frames: a well-framed byte string with a recognised function code. -/
def decodeFrame (f : Bytes) : Option Instr :=
  if wellFramed f then (frameType (byteAt f 1)).map fun mk => mk (payloadOf f) (crcField f)
  else none

/-- The bytes of a frame: head, function, length, payload, crc16 (R80). -/
def frameBytes (fn : Byte) (payload : Bytes) (crc : U16) : Bytes :=
  [Config.head, fn] ++ toBe16 (BitVec.ofNat 16 payload.length) ++ payload ++ toBe16 crc

/-! ### Commands and inputs -/

/-- The 3-bit code of a declared type (R106). -/
def DType.code : DType → Byte
  | .int8 => 0#8
  | .uint8 => 1#8
  | .int16 => 2#8
  | .uint16 => 3#8
  | .int32 => 4#8
  | .uint32 => 5#8
  | .float32 => 6#8

/-- The declared type of a code; 7, and what is no 3-bit code, is refused (R106). -/
def DType.ofCode (c : Byte) : Option DType :=
  if c = 0#8 then some .int8
  else if c = 1#8 then some .uint8
  else if c = 2#8 then some .int16
  else if c = 3#8 then some .uint16
  else if c = 4#8 then some .int32
  else if c = 5#8 then some .uint32
  else if c = 6#8 then some .float32
  else none

/-- A bool operand on the port (log entry 9). -/
def boolCode (b : Bool) : Byte := if b then 1#8 else 0#8

/-- The operands of `PACK`. -/
def decodePack : Bytes → Option Instr
  | [v3, v2, v1, v0, t] => (DType.ofCode t).map fun ty => .pack (be32 [v3, v2, v1, v0]) ty
  | _ => none

/-- The operands of `UNPACK`. -/
def decodeUnpack : Bytes → Option Instr
  | [v3, v2, v1, v0, t] => (DType.ofCode t).map fun ty => .unpack (be32 [v3, v2, v1, v0]) ty
  | _ => none

/-- The operands of `ENCODE`. -/
def decodeEncode : Bytes → Option Instr
  | fn :: payload => some (.encode fn payload)
  | _ => none

/-- `PARSE_RESPONSE` with the address absent. -/
def decodeParseAbsent (aw : Bool) : Bytes → Option Instr
  | t :: frame => (DType.ofCode t).map fun ty => .parseResponse frame aw none ty
  | _ => none

/-- `PARSE_RESPONSE` with an expected address. -/
def decodeParsePresent (aw : Bool) : Bytes → Option Instr
  | a1 :: a0 :: t :: frame => (DType.ofCode t).map fun ty => .parseResponse frame aw (some (be16 [a1, a0])) ty
  | _ => none

/-- The operands of `PARSE_RESPONSE`: `awaiting_write`, whether an address is given, the address, the type, the frame. -/
def decodeParseResponse : Bytes → Option Instr
  | aw :: present :: rest =>
    if aw = 0#8 then
      if present = 0#8 then decodeParseAbsent false rest
      else if present = 1#8 then decodeParsePresent false rest
      else none
    else if aw = 1#8 then
      if present = 0#8 then decodeParseAbsent true rest
      else if present = 1#8 then decodeParsePresent true rest
      else none
    else none
  | _ => none

/-- The operand of `BUILD_READ`. -/
def decodeBuildRead : Bytes → Option Instr
  | [a1, a0] => some (.buildRead (be16 [a1, a0]))
  | _ => none

/-- The operands of `BUILD_WRITE`. -/
def decodeBuildWrite : Bytes → Option Instr
  | [a1, a0, v3, v2, v1, v0, t] =>
    (DType.ofCode t).map fun ty => .buildWrite (be16 [a1, a0]) (be32 [v3, v2, v1, v0]) ty
  | _ => none

/-- `BUILD_HANDSHAKE` has no operand. -/
def decodeBuildHandshake : Bytes → Option Instr
  | [] => some .buildHandshake
  | _ => none

/-- The operands of `BUILD_STATUS_REPLY`. -/
def decodeBuildStatusReply : Bytes → Option Instr
  | [fc, sc] => some (.buildStatusReply fc sc)
  | _ => none

/-- The operands of `BUILD_UPGRADE_PACKET`. -/
def decodeBuildUpgradePacket : Bytes → Option Instr
  | i1 :: i0 :: chunk => some (.buildUpgradePacket (be16 [i1, i0]) chunk)
  | _ => none

/-- The operands of `BUILD_UPGRADE_CRC`. -/
def decodeBuildUpgradeCrc : Bytes → Option Instr
  | n1 :: n0 :: image => some (.buildUpgradeCrc image (be16 [n1, n0]))
  | _ => none

/-- The operands of `ISSUE_READ`. -/
def decodeIssueRead : Bytes → Option Instr
  | [a1, a0, t, k3, k2, k1, k0] =>
    (DType.ofCode t).map fun ty => .issueRead (be16 [a1, a0]) ty (be32 [k3, k2, k1, k0])
  | _ => none

/-- The operands of `ISSUE_WRITE`. -/
def decodeIssueWrite : Bytes → Option Instr
  | [a1, a0, v3, v2, v1, v0, t, k3, k2, k1, k0] =>
    (DType.ofCode t).map fun ty => .issueWrite (be16 [a1, a0]) (be32 [v3, v2, v1, v0]) ty (be32 [k3, k2, k1, k0])
  | _ => none

/-- The operands of `ISSUE_UPGRADE_DATA`. -/
def decodeIssueUpgradeData : Bytes → Option Instr
  | i1 :: i0 :: k3 :: k2 :: k1 :: k0 :: chunk =>
    some (.issueUpgradeData (be16 [i1, i0]) chunk (be32 [k3, k2, k1, k0]))
  | _ => none

/-- The operands of `ISSUE_UPGRADE_CRC`. -/
def decodeIssueUpgradeCrc : Bytes → Option Instr
  | [c1, c0, n1, n0, k3, k2, k1, k0] =>
    some (.issueUpgradeCrc (be16 [c1, c0]) (be16 [n1, n0]) (be32 [k3, k2, k1, k0]))
  | _ => none

/-- The operands of `SEND`. -/
def decodeSend : Bytes → Option Instr
  | fn :: payload => some (.send fn payload)
  | _ => none

/-- The operand of `RX_PUSH`. -/
def decodeRxPush : Bytes → Option Instr
  | [b] => some (.rxPush b)
  | _ => none

/-- `TICK` has no operand. -/
def decodeTick : Bytes → Option Instr
  | [] => some .tick
  | _ => none

/-- `RESET` has no operand. -/
def decodeReset : Bytes → Option Instr
  | [] => some .reset
  | _ => none

/-- The selectors of R105; every other value of `op` is refused. -/
def decodeOp (op : Byte) (args : Bytes) : Option Instr :=
  if op = 0x01#8 then some (.crc16 args)
  else if op = 0x02#8 then decodePack args
  else if op = 0x03#8 then decodeUnpack args
  else if op = 0x04#8 then decodeEncode args
  else if op = 0x05#8 then some (.frameCheck args)
  else if op = 0x06#8 then decodeParseResponse args
  else if op = 0x07#8 then some (.parseReport args)
  else if op = 0x10#8 then decodeBuildRead args
  else if op = 0x11#8 then decodeBuildWrite args
  else if op = 0x12#8 then decodeBuildHandshake args
  else if op = 0x13#8 then decodeBuildStatusReply args
  else if op = 0x14#8 then decodeBuildUpgradePacket args
  else if op = 0x15#8 then some (.buildUpgradePackets args)
  else if op = 0x16#8 then decodeBuildUpgradeCrc args
  else if op = 0x20#8 then decodeIssueRead args
  else if op = 0x21#8 then decodeIssueWrite args
  else if op = 0x22#8 then decodeIssueUpgradeData args
  else if op = 0x23#8 then decodeIssueUpgradeCrc args
  else if op = 0x24#8 then decodeSend args
  else if op = 0x30#8 then decodeRxPush args
  else if op = 0x31#8 then decodeTick args
  else if op = 0x3F#8 then decodeReset args
  else none

/-- The decoder of transactions at the input ports: a selector and its operands. -/
def decodeCommand : Bytes → Option Instr
  | [] => none
  | op :: args => decodeOp op args

/-- The decoder over both spaces: a byte string that begins with the head byte is read as a candidate frame, any other
as a transaction.
The head byte is no selector of R105, so no byte string has two readings. -/
def decode : Bytes → Option Instr
  | [] => none
  | b :: bs => if b = Config.head then decodeFrame (b :: bs) else decodeOp b bs

/-! ### The encoder -/

/-- The operands of `PARSE_RESPONSE` before the frame. -/
def encodeExpected : Option U16 → Bytes
  | none => [0#8]
  | some a => 1#8 :: toBe16 a

/-- The bytes of an instruction: a frame's bytes (R80), or a transaction of the command port (R105, log entry 9). -/
def encode : Instr → Bytes
  | .read payload crc => frameBytes 0x10#8 payload crc
  | .write payload crc => frameBytes 0x20#8 payload crc
  | .upgradeData payload crc => frameBytes 0x30#8 payload crc
  | .upgradeCrc payload crc => frameBytes 0x31#8 payload crc
  | .connect payload crc => frameBytes 0xE0#8 payload crc
  | .mcuReset payload crc => frameBytes 0xF0#8 payload crc
  | .ackWithData payload crc => frameBytes 0x11#8 payload crc
  | .ackNoData payload crc => frameBytes 0xF1#8 payload crc
  | .report40 payload crc => frameBytes 0x40#8 payload crc
  | .report50 payload crc => frameBytes 0x50#8 payload crc
  | .report60 payload crc => frameBytes 0x60#8 payload crc
  | .crc16 bytes => 0x01#8 :: bytes
  | .pack value type => 0x02#8 :: (toBe32 value ++ [type.code])
  | .unpack raw type => 0x03#8 :: (toBe32 raw ++ [type.code])
  | .encode function payload => 0x04#8 :: function :: payload
  | .frameCheck frame => 0x05#8 :: frame
  | .parseResponse frame aw expected type =>
    0x06#8 :: boolCode aw :: (encodeExpected expected ++ type.code :: frame)
  | .parseReport payload => 0x07#8 :: payload
  | .buildRead address => 0x10#8 :: toBe16 address
  | .buildWrite address value type => 0x11#8 :: (toBe16 address ++ toBe32 value ++ [type.code])
  | .buildHandshake => [0x12#8]
  | .buildStatusReply fc sc => [0x13#8, fc, sc]
  | .buildUpgradePacket index chunk => 0x14#8 :: (toBe16 index ++ chunk)
  | .buildUpgradePackets image => 0x15#8 :: image
  | .buildUpgradeCrc image count => 0x16#8 :: (toBe16 count ++ image)
  | .issueRead address type timeout => 0x20#8 :: (toBe16 address ++ type.code :: toBe32 timeout)
  | .issueWrite address value type timeout =>
    0x21#8 :: (toBe16 address ++ toBe32 value ++ type.code :: toBe32 timeout)
  | .issueUpgradeData index chunk timeout => 0x22#8 :: (toBe16 index ++ toBe32 timeout ++ chunk)
  | .issueUpgradeCrc crc count timeout => 0x23#8 :: (toBe16 crc ++ toBe16 count ++ toBe32 timeout)
  | .send function payload => 0x24#8 :: function :: payload
  | .rxPush b => [0x30#8, b]
  | .tick => [0x31#8]
  | .reset => [0x3F#8]

/-! ### The words of spec/opcode_table.json -/

/-- How many operand bytes a selector needs at least: what an operand word of zeros is padded to. -/
def operandBytes (op : Byte) : Nat :=
  if op = 0x02#8 then 5
  else if op = 0x03#8 then 5
  else if op = 0x04#8 then 1
  else if op = 0x06#8 then 3
  else if op = 0x10#8 then 2
  else if op = 0x11#8 then 7
  else if op = 0x13#8 then 2
  else if op = 0x14#8 then 2
  else if op = 0x16#8 then 2
  else if op = 0x20#8 then 7
  else if op = 0x21#8 then 11
  else if op = 0x22#8 then 6
  else if op = 0x23#8 then 8
  else if op = 0x24#8 then 1
  else if op = 0x30#8 then 1
  else 0

/-- The transaction whose selector is `op` and whose operands are zero. -/
def zeroTransaction (op : Byte) : Bytes := op :: List.replicate (operandBytes op) 0#8

/-- The frame whose header word is `h` (R108) and whose payload and crc16 are zero. -/
def zeroFrame (h : U32) : Bytes :=
  toBe32 h ++ List.replicate ((h.extractLsb' 0 16).toNat + 2) 0#8

/-- The instruction read from a word of spec/opcode_table.json: 8 bits are a selector (R105), 32 bits the header word of
a frame (R108); every bit beyond is zero. -/
def decodeTableWord (nbits w : Nat) : Option Instr :=
  if nbits = 8 then decodeCommand (zeroTransaction (BitVec.ofNat 8 w))
  else if nbits = 32 then decodeFrame (zeroFrame (BitVec.ofNat 32 w))
  else none

end Sys2Proof
end

