-- ==== Sys2Proof/Machine/State.lean ====
section
/-! DEFINITION. The state of the block (10_state.md): the four elements the spec gives it, the parameters of the step
relation, and the model's own places for what stands at the ports; the reasons a step can stop; the state after reset. -/

namespace Sys2Proof.Machine

/-- What a pending entry asks (R25): the kind, with the fields that are present for that kind and no others. -/
inductive Request where
  | read (address : U16) (declaredType : DType)
  | write (address : U16) (declaredType : DType)
  | upgradeData (packetIndex : U16)
  | upgradeCrc
deriving DecidableEq, Repr

/-- An entry of the pending-request table (R25). -/
structure Entry where
  /-- Request identity, `ID_W` bits. -/
  id : Nat
  /-- Kind, address, declared type and packet index. -/
  request : Request
  /-- `creation_time`: value of `now` when the entry was inserted. -/
  creationTime : Nat
  /-- Ticks after which the entry expires. -/
  timeout : Nat
deriving DecidableEq, Repr

/-- The error kinds that a port of the block can carry (R260).
`SizeError`, `PacketTimeout` and `UpgradeFailed` belong to the Upgrade Orchestrator (R236). -/
inductive ErrorKind where
  | malformed
  | crcMismatch
  | addressMismatch
  | unexpectedData
  | badLength
  | unknownResponseType
  | timeout
  | deviceError (functionCode statusCode : Byte)
deriving DecidableEq, Repr

/-- `Result` (R34). A value is the integer; a `float32` value is its 32-bit pattern as a number (R136). -/
inductive Result where
  | readSuccess (address : U16) (value : Int)
  | statusSuccess (statusCode : Byte)
  | error (kind : ErrorKind)
deriving DecidableEq, Repr

/-- A record of a device report (R95): address and raw value. -/
abbrev Record := U16 × U32

/-- What a pure command returns (R33, the operations of 40_codec.md). -/
inductive RetVal where
  | u16 (v : U16)
  | bytes (bs : Bytes)
  | value (v : Int)
  | frame (f : Bytes)
  | frames (fs : List Bytes)
  | bool (b : Bool)
  | result (r : Result)
  | records (rs : List Record)
  | error (kind : ErrorKind)
deriving DecidableEq, Repr

/-- The seven reasons of a `Discard` event (R262). -/
inductive Reason where
  | noHead
  | beforeHead
  | badFunction
  | crcMismatch
  | malformed
  | unknownResponseType
  | unmatched
deriving DecidableEq, Repr

/-- The output events (R33). -/
inductive Event where
  | tx (frame : Bytes)
  | issueAck (id : Nat)
  | completion (id : Nat) (result : Result)
  | hsOffer (frame : Bytes) (crcOk : Bool)
  | report (function : Byte) (records : List Record)
  | discard (reason : Reason) (n : Nat)
  | ret (v : RetVal)
deriving DecidableEq, Repr

/-- What became of the last transaction: accepted (R16), held on a full table (R204; log entry 8), or refused, that is not
accepted with nothing changed (R105, R269). The model's own (log entry 7). -/
inductive Reply where
  | none
  | accepted
  | held
  | refused
deriving DecidableEq, Repr

/-- The state of the machine. -/
structure State where
  /-- The RX buffer (R24). -/
  rxbuf : Bytes
  /-- The pending-request table, oldest entry first (R25). -/
  pend : List Entry
  /-- The id counter (R26). -/
  nextId : Nat
  /-- The tick counter (R27). -/
  now : Nat
  /-- The parameters of R9, fixed for a run (R23, R37); log entry 1. -/
  params : Params
  /-- The transactions waiting at the input ports (R30), oldest first; the model's own (log entry 3). -/
  inbox : List Bytes
  /-- Answers of `hc_verdict` that the environment has supplied (R32), oldest first; the model's own (log entry 5). -/
  verdicts : List Bool
  /-- How many offers there have been: index of the free value `Config.hcVerdict`; the model's own (log entry 5). -/
  offers : Nat
  /-- The output events so far (R33), oldest first; the model's own (log entry 6). -/
  events : List Event
  /-- What became of the last transaction; the model's own (log entry 7). -/
  reply : Reply
deriving DecidableEq, Repr

/-- The reasons the machine stops with a fault: none. The block never halts (R269): its errors are events, and what it does
not accept is a next state in which `reply` says so. -/
inductive Fault where
deriving DecidableEq, Repr

/-- The reasons an instruction has no meaning. -/
inductive Refusal where
  /-- An instruction rejected by name. Safe. No arm of `exec` answers it. -/
  | notModelled (mnemonic : String)
deriving DecidableEq, Repr

/-- The three outcomes of a step of this machine. -/
abbrev StepOutcome := Host.Outcome State Fault Refusal

/-- The machine right after reset (R36, R300), with the parameters' defaults (R9) and nothing at the ports. -/
def State.reset : State where
  rxbuf := []
  pend := []
  nextId := 0
  now := 0
  params := Params.default
  inbox := []
  verdicts := []
  offers := 0
  events := []
  reply := .none

end Sys2Proof.Machine
end

