-- ==== Sys2Proof/Machine/Operands.lean ====
section
/-! DEFINITION. The operand forms: typed values on the wire (30_encoding.md R97, R98; 40_codec.md R122, R123), the payload
layouts (R87 to R95), the numbers of the ports (R106, R261), and the limits of operands (R124, R130, R131). -/

namespace Sys2Proof.Machine

/-! ### Typed values -/

/-- The width `N` of a declared type (R98). -/
def typeBits : DType → Nat
  | .int8 => 8
  | .uint8 => 8
  | .int16 => 16
  | .uint16 => 16
  | .int32 => 32
  | .uint32 => 32
  | .float32 => 32

/-- Whether a declared type is signed (R98); `float32` is not an integer. -/
def typeSigned : DType → Bool
  | .int8 => true
  | .uint8 => false
  | .int16 => true
  | .uint16 => false
  | .int32 => true
  | .uint32 => false
  | .float32 => false

/-- `sext_N(v)` (R13). -/
def sext (n : Nat) (v : Nat) : Int := if v < 2 ^ (n - 1) then (v : Int) else (v : Int) - (2 ^ n : Nat)

/-- `PACK(value, type)` (R122): the 4 bytes of `value mod 2^N`; a `float32` value is its 32-bit pattern (R136). -/
def pack (value : Int) (type : DType) : Bytes :=
  if type = .float32 then toBe32 (BitVec.ofInt 32 value)
  else toBe32 (BitVec.ofInt 32 (value % (2 ^ typeBits type : Nat)))

/-- `UNPACK(raw, type)` (R123): the low `N` bits of the big-endian word, sign-extended for a signed type. -/
def unpack (raw : Bytes) (type : DType) : Int :=
  let w := (be32 raw).toNat
  if type = .float32 then (w : Int)
  else
    let low := w % 2 ^ typeBits type
    if typeSigned type then sext (typeBits type) low else (low : Int)

/-! ### Payload layouts -/

/-- The payload of `READ` (R87). -/
def readPayload (address : U16) : Bytes := toBe16 address

/-- The payload of `WRITE` (R88). -/
def writePayload (address : U16) (value : Int) (type : DType) : Bytes := toBe16 address ++ pack value type

/-- A chunk padded with zero bytes to the packet size (R89, R130). -/
def padChunk (chunk : Bytes) : Bytes := chunk ++ List.replicate (Config.packetSize - chunk.length) 0#8

/-- The payload of `UPGRADE_DATA` (R89): mode tag, packet index, padded chunk. -/
def upgradeDataPayload (modeTag packetIndex : U16) (chunk : Bytes) : Bytes :=
  toBe16 modeTag ++ toBe16 packetIndex ++ padChunk chunk

/-- The payload of `UPGRADE_CRC` (R90). -/
def upgradeCrcPayload (imageCrc packetCount : U16) : Bytes := toBe16 imageCrc ++ toBe16 packetCount

/-- The payload of `ACK_NO_DATA` (R94). -/
def statusPayload (functionCode statusCode : Byte) : Bytes := [functionCode, statusCode]

/-- The address in the payload of `ACK_WITH_DATA` (R93). -/
def ackAddress (p : Bytes) : U16 := be16 (slice p 0 2)

/-- The raw value in the payload of `ACK_WITH_DATA` (R93). -/
def ackRaw (p : Bytes) : Bytes := slice p 2 6

/-- Record `i` of a report payload (R95). -/
def reportRecord (p : Bytes) (i : Nat) : Record :=
  (be16 (slice p (6 * i) (6 * i + 2)), be32 (slice p (6 * i + 2) (6 * i + 6)))

/-- `PARSE_REPORT(payload)` (R134); `none` is `Err.Malformed`. -/
def parseReport (p : Bytes) : Option (List Record) :=
  if p.length % Config.reportRecordBytes ≠ 0 then none
  else some ((List.range (p.length / Config.reportRecordBytes)).map (reportRecord p))

/-! ### Limits of operands -/

/-- A payload that the 2-byte length field can count (R124). -/
def fitsLength (payload : Bytes) : Bool := decide (payload.length ≤ 65535)

/-- A chunk of at most one packet (R130). -/
def fitsChunk (chunk : Bytes) : Bool := decide (chunk.length ≤ Config.packetSize)

/-- The number of packets of an image: `ceil(|image| / 2048)` (R131). -/
def numPackets (image : Bytes) : Nat := (image.length + (Config.packetSize - 1)) / Config.packetSize

/-- An image of at most 65535 packets (R131). -/
def fitsImage (image : Bytes) : Bool := decide (numPackets image ≤ 65535)

/-- Chunk `i` of an image (R59, R131): bytes `2048 * i` to `2048 * i + 2047`, fewer in the last. -/
def imageChunk (image : Bytes) (i : Nat) : Bytes :=
  slice image (Config.packetSize * i) (min (Config.packetSize * (i + 1)) image.length)

/-- A timeout fits the `TIME_W` bits of the entry's field (R25, R200, R304). -/
def fitsTime (p : Params) (timeout : Nat) : Bool := decide (timeout < 2 ^ p.timeW)

/-! ### Numbers of the ports -/

/-- The 2-bit code of a kind (R106). -/
def kindCode : Request → BitVec 2
  | .read _ _ => 0#2
  | .write _ _ => 1#2
  | .upgradeData _ => 2#2
  | .upgradeCrc => 3#2

/-- The byte `rc` of a result on the completion port (R261). -/
def resultCode : Result → Byte
  | .readSuccess _ _ => 0x00#8
  | .statusSuccess _ => 0x01#8
  | .error .malformed => 0x10#8
  | .error .crcMismatch => 0x11#8
  | .error .addressMismatch => 0x12#8
  | .error .unexpectedData => 0x13#8
  | .error .badLength => 0x14#8
  | .error .unknownResponseType => 0x15#8
  | .error .timeout => 0x20#8
  | .error (.deviceError _ _) => 0x30#8

/-- A result as it stands on the completion port: `rc` (R261), then the fields; a value is its 32-bit word (D20). The layout of
the fields of a success, in the event's order and big-endian, is the model's choice (log entry 20). -/
def resultBytes (r : Result) : Bytes :=
  resultCode r :: match r with
    | .readSuccess a v => toBe16 a ++ toBe32 (BitVec.ofInt 32 v)
    | .statusSuccess sc => [sc]
    | .error (.deviceError fc sc) => [fc, sc]
    | .error _ => []

end Sys2Proof.Machine
end

