-- ==== Sys2Proof/Machine/Flags.lean ====
section
/-! DEFINITION. The conditions the block computes. It has no flags (10_state.md R22): a CRC result, a match, an expiry is a
value used in the step that computes it. The CRC validator is 40_codec.md R120 and R125; the match predicate is
42_correlator.md R196; the expiry test is R200. -/

namespace Sys2Proof.Machine

/-! ### The CRC validator -/

/-- One of the 8 repetitions of R120: shift left, and XOR the polynomial if bit 15 was set; the register keeps 16 bits. -/
def crcBit (crc : U16) : U16 :=
  if crc &&& 0x8000#16 ≠ 0#16 then (crc <<< 1) ^^^ Config.crcPoly else crc <<< 1

/-- One byte of R120: it enters the high byte of the register, then 8 repetitions. -/
def crcByte (crc : U16) (b : Byte) : U16 := Nat.repeat crcBit 8 (crc ^^^ (b.setWidth 16 <<< 8))

/-- `k crc`, with the register's value settled before `k` runs: it changes nothing (`settled_eq`), and lets the
kernel evaluate the CRC of a long string. -/
def settled {α : Type} (crc : U16) (k : U16 → α) : α := if crc = 0#16 then k 0#16 else k crc

/-- The register after a byte string, begun at `crc` (R120; R121 (d)). -/
def crc16 (crc : U16) : Bytes → U16
  | [] => crc
  | b :: bs => settled (crcByte crc b) fun c => crc16 c bs

/-- `FRAME_CHECK(frame)` (R125): the last two bytes are the CRC of all before them. -/
def frameCheck (init : U16) (f : Bytes) : Bool :=
  if f.length < 2 then false
  else be16 (slice f (f.length - 2) f.length) == crc16 init (slice f 0 (f.length - 2))

/-! ### Matching and expiry -/

/-- `MATCH(e, f)` (R196), for a CRC-valid candidate frame. -/
def matchesFrame (f : Bytes) (e : Entry) : Bool :=
  let fn := byteAt f 1
  let p := payloadOf f
  match e.request with
  | .read address _ => fn == 0x11#8 && decide (2 ≤ p.length) && be16 (slice p 0 2) == address
  | .write _ _ => fn == 0xF1#8
  | .upgradeData _ => fn == 0xF1#8 && decide (1 ≤ p.length) && byteAt p 0 == 0x30#8
  | .upgradeCrc => fn == 0xF1#8 && decide (1 ≤ p.length) && byteAt p 0 == 0x31#8

/-- `awaiting_write` of an entry (R197, D13): true for the three kinds that `ACK_NO_DATA` answers. -/
def awaitingWrite : Request → Bool
  | .read _ _ => false
  | .write _ _ => true
  | .upgradeData _ => true
  | .upgradeCrc => true

/-- `expected_address` of an entry (R197): the address of a read, else absent. -/
def expectedAddress : Request → Option U16
  | .read address _ => some address
  | .write _ _ => none
  | .upgradeData _ => none
  | .upgradeCrc => none

/-- `declared_type` of an entry (R197).
The upgrade kinds have none; `PARSE_RESPONSE` reads the type only where no write is awaited (R133), so what stands for
it there is read by nothing (`parseResponse_type_unread`). -/
def declaredType : Request → DType
  | .read _ type => type
  | .write _ type => type
  | .upgradeData _ => .uint32
  | .upgradeCrc => .uint32

/-- `(now - creation_time) mod 2^TIME_W` (R200), non-negative (R13). -/
def elapsed (p : Params) (now creationTime : Nat) : Nat :=
  (((now : Int) - (creationTime : Int)) % ((2 ^ p.timeW : Nat) : Int)).toNat

/-- The expiry test of R200. -/
def expired (p : Params) (now : Nat) (e : Entry) : Bool := decide (e.timeout ≤ elapsed p now e.creationTime)

/-- The table can take no entry (R190, R204). -/
def tableFull (p : Params) (pend : List Entry) : Bool := p.nPending == some pend.length

/-! ### Parsing a response -/

/-- The address test of R133: only where an address is expected. -/
def addressDiffers (expected : Option U16) (a : U16) : Bool :=
  match expected with
  | none => false
  | some x => a != x

/-- The `ACK_WITH_DATA` branch of R133. -/
def parseAckWithData (p : Bytes) (awaitingWrite : Bool) (expected : Option U16) (type : DType) : Result :=
  if awaitingWrite then .error .unexpectedData
  else if p.length ≠ Config.ackDataLen then .error .badLength
  else if addressDiffers expected (ackAddress p) then .error .addressMismatch
  else .readSuccess (ackAddress p) (unpack (ackRaw p) type)

/-- The `ACK_NO_DATA` branch of R133. -/
def parseAckNoData (p : Bytes) (awaitingWrite : Bool) : Result :=
  if p.length ≠ Config.ackNoDataLen then .error .badLength
  else if awaitingWrite && byteAt p 1 == Config.statusOk then .statusSuccess (byteAt p 1)
  else .error (.deviceError (byteAt p 0) (byteAt p 1))

/-- `PARSE_RESPONSE` (R133), its tests in the order of R266. -/
def parseResponse (init : U16) (f : Bytes) (awaitingWrite : Bool) (expected : Option U16) (type : DType) : Result :=
  if f.length < 2 then .error .malformed
  else if frameCheck init f = false then .error .crcMismatch
  else if f.length < Config.minFrame then .error .malformed
  else if byteAt f 1 = 0x11#8 then parseAckWithData (payloadOf f) awaitingWrite expected type
  else if byteAt f 1 = 0xF1#8 then parseAckNoData (payloadOf f) awaitingWrite
  else .error .unknownResponseType

end Sys2Proof.Machine
end

