-- ==== Sys2Proof/Machine/Ops.lean ====
section
/-! DEFINITION. The named operations over the state: events and replies, the RX buffer (00_scope.md R14), the pending table,
raising an error (60_exceptions.md R267), the oracle (R32), the id counter (R203), and the input ports (R30). -/

namespace Sys2Proof.Machine

/-! ### Events and replies -/

/-- `emit E` (R15). -/
def State.emit (s : State) (e : Event) : State := { s with events := s.events ++ [e] }

/-- The transaction was accepted (R16). -/
def State.accept (s : State) : State := { s with reply := .accepted }

/-- The transaction is held: not accepted, nothing changes (R15, R204). -/
def State.hold (s : State) : State := { s with reply := .held }

/-- The transaction is refused: not accepted, nothing changes, no event (R105, R269). -/
def State.refuse (s : State) : State := { s with reply := .refused }

/-- A pure command returns its value (R31, R33, R138). -/
def State.returning (s : State) (v : RetVal) : State := (s.emit (.ret v)).accept

/-! ### The RX buffer -/

/-- `MemRead(i, n) = rxbuf[i:i+n]` (R14). -/
def State.memRead (s : State) (i n : Nat) : Bytes := slice s.rxbuf i (i + n)

/-- `rxbuf <- rxbuf ++ [b]` (R14, R160). -/
def State.pushByte (s : State) (b : Byte) : State := { s with rxbuf := s.rxbuf ++ [b] }

/-- Removal of a prefix of `n` bytes (R14): the rest is renumbered from 0 (R60). -/
def State.dropBytes (s : State) (n : Nat) : State := { s with rxbuf := s.rxbuf.drop n }

/-! ### Raising an error

An error saves no state and transfers control nowhere; its whole effect is one of the three below (R267). There is nothing
to return from (R268). -/

/-- R267 (a), a stream-level fault: bytes leave `rxbuf` and a `Discard` event is emitted. -/
def State.streamError (s : State) (reason : Reason) (n : Nat) : State :=
  (s.emit (.discard reason n)).dropBytes n

/-- R267 (b), a frame-level fault without a requester: a `Discard` event for the whole candidate frame, whose bytes
step S7 takes out of `rxbuf` (R169). -/
def State.frameError (s : State) (reason : Reason) (f : Bytes) : State := s.emit (.discard reason f.length)

/-- `pend.remove(e)` and `emit Completion(e.id, r)` (R197, R200); with an error, R267 (c). -/
def State.complete (s : State) (e : Entry) (r : Result) : State :=
  { s with pend := s.pend.erase e }.emit (.completion e.id r)

/-! ### The oracle -/

/-- The answer of `hc_verdict` to an offer (R32): the environment's next answer, or where it has supplied none a free
value (log entry 5). -/
def State.verdict (s : State) (f : Bytes) (crcOk : Bool) : Bool :=
  match s.verdicts with
  | v :: _ => v
  | [] => Config.hcVerdict s.offers f crcOk

/-- `emit HsOffer(frame, crc_ok)` (R171), its answer used up. -/
def State.offer (s : State) (f : Bytes) (crcOk : Bool) : State :=
  { s with verdicts := s.verdicts.tail, offers := s.offers + 1 }.emit (.hsOffer f crcOk)

/-! ### The id counter -/

/-- The ids of the live entries. -/
def liveIds (pend : List Entry) : List Nat := pend.map Entry.id

/-- The loop of `ALLOC_ID` (R203): the first of the ids `c`, `c + 1`, … modulo `m` that is not live, among at most `k`. -/
def searchId (live : List Nat) (m : Nat) : Nat → Nat → Option Nat
  | 0, _ => none
  | k + 1, c => if c ∈ live then searchId live m k ((c + 1) % m) else some c

/-- `ALLOC_ID` (R203). `none` where as many ids as entries, and one more, are all live: then every id is, and R203's loop ends
only when an entry leaves (log entry 8). -/
def allocId (s : State) : Option Nat :=
  searchId (liveIds s.pend) (2 ^ s.params.idW) (s.pend.length + 1) s.nextId

/-! ### The input ports -/

/-- The transaction the next step takes (R30), and the state without it; none where the ports are quiet. -/
def State.fetch (s : State) : Option (Bytes × State) :=
  match s.inbox with
  | [] => none
  | t :: rest => some (t, { s with inbox := rest })

/-- A held transaction is presented again, after the inputs that wait behind it (R204, U12; log entry 11). -/
def presentAgain (t : Bytes) : StepOutcome → StepOutcome
  | .next s => if s.reply = .held then .next { s with inbox := s.inbox ++ [t] } else .next s
  | .fault r => .fault r
  | .refused r => .refused r

end Sys2Proof.Machine
end

