-- ==== Sys2Proof/Machine/Codec.lean ====
section
/-! DEFINITION. The codec family (40_codec.md): the frame builders and the meanings of the pure commands. Each returns a value
and changes nothing else (R138); an operand that fits no field is refused (R124, R130, R131). -/

namespace Sys2Proof.Machine

/-! ### Building frames -/

/-- `ENCODE(function, payload)` (R124), where the payload fits. -/
def encodeFrame (init : U16) (function : Byte) (payload : Bytes) : Bytes :=
  let body := [Config.head, function] ++ toBe16 (BitVec.ofNat 16 payload.length) ++ payload
  body ++ toBe16 (crc16 init body)

/-- `BUILD_READ(address)` (R126). -/
def buildRead (init : U16) (address : U16) : Bytes := encodeFrame init 0x10#8 (readPayload address)

/-- `BUILD_WRITE(address, value, type)` (R127). -/
def buildWrite (init : U16) (address : U16) (value : Int) (type : DType) : Bytes :=
  encodeFrame init 0x20#8 (writePayload address value type)

/-- `BUILD_HANDSHAKE()` (R128). -/
def buildHandshake (init : U16) : Bytes := encodeFrame init 0xE0#8 []

/-- `BUILD_STATUS_REPLY(function_code, status_code)` (R129). -/
def buildStatusReply (init : U16) (functionCode statusCode : Byte) : Bytes :=
  encodeFrame init 0xF1#8 (statusPayload functionCode statusCode)

/-- `BUILD_UPGRADE_PACKET(packet_index, chunk)` (R130), where the chunk fits. -/
def buildUpgradePacket (init modeTag : U16) (packetIndex : U16) (chunk : Bytes) : Bytes :=
  encodeFrame init 0x30#8 (upgradeDataPayload modeTag packetIndex chunk)

/-- `BUILD_UPGRADE_PACKETS(image)` (R131), where the packets can be counted. -/
def buildUpgradePackets (init modeTag : U16) (image : Bytes) : List Bytes :=
  (List.range (numPackets image)).map fun i =>
    buildUpgradePacket init modeTag (BitVec.ofNat 16 i) (imageChunk image i)

/-- The `UPGRADE_CRC` frame of an image CRC and a packet count (R90, R132, R194). -/
def buildUpgradeCrcOf (init : U16) (imageCrc packetCount : U16) : Bytes :=
  encodeFrame init 0x31#8 (upgradeCrcPayload imageCrc packetCount)

/-- `BUILD_UPGRADE_CRC(image, packet_count)` (R132): the CRC is over the image as given. -/
def buildUpgradeCrc (init : U16) (image : Bytes) (packetCount : U16) : Bytes :=
  buildUpgradeCrcOf init (crc16 init image) packetCount

/-! ### Meanings -/

/-- `CRC16` (R120). -/
def execCrc16 (bytes : Bytes) (s : State) : StepOutcome :=
  .next (s.returning (.u16 (crc16 s.params.crcInit bytes)))

/-- `PACK` (R122). -/
def execPack (value : U32) (type : DType) (s : State) : StepOutcome :=
  .next (s.returning (.bytes (pack value.toNat type)))

/-- `UNPACK` (R123). -/
def execUnpack (raw : U32) (type : DType) (s : State) : StepOutcome :=
  .next (s.returning (.value (unpack (toBe32 raw) type)))

/-- `ENCODE` (R124): a payload that does not fit is refused. -/
def execEncode (function : Byte) (payload : Bytes) (s : State) : StepOutcome :=
  if fitsLength payload then .next (s.returning (.frame (encodeFrame s.params.crcInit function payload)))
  else .next s.refuse

/-- `FRAME_CHECK` (R125). -/
def execFrameCheck (frame : Bytes) (s : State) : StepOutcome :=
  .next (s.returning (.bool (frameCheck s.params.crcInit frame)))

/-- `PARSE_RESPONSE` (R133). -/
def execParseResponse (frame : Bytes) (awaitingWrite : Bool) (expectedAddress : Option U16) (declaredType : DType)
    (s : State) : StepOutcome :=
  .next (s.returning (.result (parseResponse s.params.crcInit frame awaitingWrite expectedAddress declaredType)))

/-- `PARSE_REPORT` (R134). -/
def execParseReport (payload : Bytes) (s : State) : StepOutcome :=
  match parseReport payload with
  | some records => .next (s.returning (.records records))
  | none => .next (s.returning (.error .malformed))

/-- `BUILD_READ` (R126). -/
def execBuildRead (address : U16) (s : State) : StepOutcome :=
  .next (s.returning (.frame (buildRead s.params.crcInit address)))

/-- `BUILD_WRITE` (R127). -/
def execBuildWrite (address : U16) (value : U32) (type : DType) (s : State) : StepOutcome :=
  .next (s.returning (.frame (buildWrite s.params.crcInit address value.toNat type)))

/-- `BUILD_HANDSHAKE` (R128). -/
def execBuildHandshake (s : State) : StepOutcome :=
  .next (s.returning (.frame (buildHandshake s.params.crcInit)))

/-- `BUILD_STATUS_REPLY` (R129). -/
def execBuildStatusReply (functionCode statusCode : Byte) (s : State) : StepOutcome :=
  .next (s.returning (.frame (buildStatusReply s.params.crcInit functionCode statusCode)))

/-- `BUILD_UPGRADE_PACKET` (R130): a chunk of more than 2048 bytes is refused. -/
def execBuildUpgradePacket (packetIndex : U16) (chunk : Bytes) (s : State) : StepOutcome :=
  if fitsChunk chunk then
    .next (s.returning (.frame (buildUpgradePacket s.params.crcInit s.params.upgradeModeTag packetIndex chunk)))
  else .next s.refuse

/-- `BUILD_UPGRADE_PACKETS` (R131): an image of more than 65535 packets is refused. -/
def execBuildUpgradePackets (image : Bytes) (s : State) : StepOutcome :=
  if fitsImage image then
    .next (s.returning (.frames (buildUpgradePackets s.params.crcInit s.params.upgradeModeTag image)))
  else .next s.refuse

/-- `BUILD_UPGRADE_CRC` (R132). -/
def execBuildUpgradeCrc (image : Bytes) (packetCount : U16) (s : State) : StepOutcome :=
  .next (s.returning (.frame (buildUpgradeCrc s.params.crcInit image packetCount)))

end Sys2Proof.Machine
end

