-- ==== Sys2Proof/Machine/Correlator.lean ====
section
/-! DEFINITION. The correlator family (42_correlator.md): issuing a request, sending without one, matching an
acknowledgement, expiry. -/

namespace Sys2Proof.Machine

/-! ### Shared operations -/

/-- The entry that `ISSUE` inserts (R190), stamped with `now`. -/
def newEntry (s : State) (id : Nat) (request : Request) (timeout : Nat) : Entry :=
  { id := id, request := request, creationTime := s.now, timeout := timeout }

/-- The acceptance of an `ISSUE` (R190): the entry is registered, then the frame sent (R63), then the id told. -/
def State.register (s : State) (id : Nat) (request : Request) (timeout : Nat) (frame : Bytes) : State :=
  ((({ s with
        pend := s.pend ++ [newEntry s id request timeout]
        nextId := (id + 1) % 2 ^ s.params.idW }.emit (.tx frame)).emit (.issueAck id)).accept)

/-- `ISSUE`, common part (R190): a timeout that fits no field is refused, a full table holds (R204), else an id is
allocated (R203) and the request accepted. A table that has every id live is held like a full one, since the block never
halts (R269): the model's choice (log entry 8). -/
def issue (request : Request) (frame : Bytes) (timeout : Nat) (s : State) : StepOutcome :=
  if fitsTime s.params timeout = false then .next s.refuse
  else if tableFull s.params s.pend then .next s.hold
  else match allocId s with
    | some id => .next (s.register id request timeout frame)
    | none => .next s.hold

/-- The result that `CORRELATE` delivers to a matched entry (R197). -/
def responseFor (init : U16) (f : Bytes) (e : Entry) : Result :=
  parseResponse init f (awaitingWrite e.request) (expectedAddress e.request) (declaredType e.request)

/-- `CORRELATE(f)` (R197): the oldest matching entry is removed and completed; with none the frame is unmatched. -/
def correlate (f : Bytes) (s : State) : State :=
  match s.pend.find? (matchesFrame f) with
  | some e => s.complete e (responseFor s.params.crcInit f e)
  | none => s.frameError .unmatched f

/-- The body of the loop of `TICK` (R200), for one entry. -/
def tickEntry (s : State) (e : Entry) : State :=
  if expired s.params s.now e then s.complete e (.error .timeout) else s

/-- `now <- (now + 1) mod 2^TIME_W` (R200). -/
def State.advance (s : State) : State := { s with now := (s.now + 1) % 2 ^ s.params.timeW }

/-! ### Meanings -/

/-- `ISSUE_READ` (R191). -/
def execIssueRead (address : U16) (declaredType : DType) (timeout : U32) (s : State) : StepOutcome :=
  issue (.read address declaredType) (buildRead s.params.crcInit address) timeout.toNat s

/-- `ISSUE_WRITE` (R192). -/
def execIssueWrite (address : U16) (value : U32) (declaredType : DType) (timeout : U32) (s : State) : StepOutcome :=
  issue (.write address declaredType) (buildWrite s.params.crcInit address value.toNat declaredType) timeout.toNat s

/-- `ISSUE_UPGRADE_DATA` (R193): a chunk of more than 2048 bytes is refused as by the builder (R130). -/
def execIssueUpgradeData (packetIndex : U16) (chunk : Bytes) (timeout : U32) (s : State) : StepOutcome :=
  if fitsChunk chunk then
    issue (.upgradeData packetIndex)
      (buildUpgradePacket s.params.crcInit s.params.upgradeModeTag packetIndex chunk) timeout.toNat s
  else .next s.refuse

/-- `ISSUE_UPGRADE_CRC` (R194): it takes the image's CRC, not the image. -/
def execIssueUpgradeCrc (imageCrc packetCount : U16) (timeout : U32) (s : State) : StepOutcome :=
  issue .upgradeCrc (buildUpgradeCrcOf s.params.crcInit imageCrc packetCount) timeout.toNat s

/-- `SEND` (R195): transmit without registering; a payload that does not fit is refused as by `ENCODE`. -/
def execSend (function : Byte) (payload : Bytes) (s : State) : StepOutcome :=
  if fitsLength payload then .next (s.emit (.tx (encodeFrame s.params.crcInit function payload))).accept
  else .next s.refuse

/-- `TICK` (R200): the counter advances, then every entry is tested, oldest first. -/
def execTick (s : State) : StepOutcome :=
  .next (s.pend.foldl tickEntry s.advance).accept

end Sys2Proof.Machine
end

