-- ==== Sys2Proof/Machine/Reassembler.lean ====
section
/-! DEFINITION. The reassembler family (41_reassembler.md): the pass over the RX buffer (R161 to R169), the dispatch of a
candidate frame (R170 to R175), and the intake of a byte (R160). -/

namespace Sys2Proof.Machine

/-! ### The pass

What a pass does to the buffer does not depend on what a dispatched frame causes, so the pass is a function of the
buffer alone that lists its actions in order. -/

/-- What a pass does: it drops bytes from the front with a `Discard`, or cuts a candidate frame. -/
inductive Action where
  | drop (reason : Reason) (n : Nat)
  | cut (frame : Bytes)
deriving DecidableEq, Repr

/-- One trip through S1 to S7: its actions, the bytes that remain, and whether the pass stops or goes to S1 (R180). -/
inductive Trip where
  | stop (acts : List Action) (rest : Bytes)
  | again (acts : List Action) (rest : Bytes)
deriving DecidableEq, Repr

/-- The least offset, not below `start`, at which `buf` holds the head byte (S2, S5). -/
def headFrom (start : Nat) (buf : Bytes) : Option Nat :=
  ((buf.drop start).findIdx? (· == Config.head)).map (· + start)

/-- S5 where the function byte is not recognised (R166): drop up to the next head, or everything. -/
def tripBadFunction (acts : List Action) (buf : Bytes) : Trip :=
  match headFrom 1 buf with
  | none => .stop (acts ++ [.drop .badFunction buf.length]) []
  | some j => .again (acts ++ [.drop .badFunction j]) (buf.drop j)

/-- S6 and S7 (R168, R169): wait for `total` bytes, or cut the candidate frame. -/
def tripCut (acts : List Action) (buf : Bytes) : Trip :=
  if buf.length < frameTotal buf then .stop acts buf
  else .again (acts ++ [.cut (buf.take (frameTotal buf))]) (buf.drop (frameTotal buf))

/-- S4 to S7, with the head byte at the front (R165 to R169). -/
def tripAtHead (acts : List Action) (buf : Bytes) : Trip :=
  if buf.length < Config.minFrame then .stop acts buf
  else if recognised (byteAt buf 1) then tripCut acts buf
  else tripBadFunction acts buf

/-- S1 to S7 (R161). -/
def trip (buf : Bytes) : Trip :=
  if buf.length < Config.minFrame then .stop [] buf
  else match headFrom 0 buf with
    | none => .stop [.drop .noHead buf.length] []
    | some 0 => tripAtHead [] buf
    | some (i + 1) => tripAtHead [.drop .beforeHead (i + 1)] (buf.drop (i + 1))

/-- At most `n` trips (R176): the actions in order, and the bytes that remain. -/
def passTrips : Nat → Bytes → List Action × Bytes
  | 0, buf => ([], buf)
  | n + 1, buf =>
    match trip buf with
    | .stop acts rest => (acts, rest)
    | .again acts rest => (acts ++ (passTrips n rest).1, (passTrips n rest).2)

/-- `PASS` (R161), run to its fixed point: a pass over `n` bytes makes at most `n` trips that go on (R176). -/
def runPass (buf : Bytes) : List Action × Bytes := passTrips (buf.length + 1) buf

/-! ### Dispatch -/

/-- A CRC-valid device report (R174). -/
def dispatchReport (f : Bytes) (s : State) : State :=
  match parseReport (payloadOf f) with
  | none => s.frameError .malformed f
  | some records => s.emit (.report (byteAt f 1) records)

/-- `DISPATCH` after the offer: the CRC test, then the branch on the function byte (R170, R172 to R175). -/
def dispatchChecked (f : Bytes) (s : State) : State :=
  if frameCheck s.params.crcInit f = false then s.frameError .crcMismatch f
  else if byteAt f 1 = 0x11#8 ∨ byteAt f 1 = 0xF1#8 then correlate f s
  else if byteAt f 1 = 0x40#8 ∨ byteAt f 1 = 0x50#8 ∨ byteAt f 1 = 0x60#8 then dispatchReport f s
  else s.frameError .unknownResponseType f

/-- The offer to the Handshake Controller (R171): a frame it does not consume falls through. -/
def dispatchOffered (f : Bytes) (s : State) : State :=
  if s.verdict f (frameCheck s.params.crcInit f) then s.offer f (frameCheck s.params.crcInit f)
  else dispatchChecked f (s.offer f (frameCheck s.params.crcInit f))

/-- `DISPATCH(frame)` (R170): `CONNECT` and `MCU_RESET` are offered first. -/
def dispatch (f : Bytes) (s : State) : State :=
  if byteAt f 1 = 0xE0#8 ∨ byteAt f 1 = 0xF0#8 then dispatchOffered f s
  else dispatchChecked f s

/-- One action of a pass, carried out: a dropped prefix is a stream-level fault (R267); a cut frame is dispatched and its
bytes leave the buffer (R169). -/
def runAction (s : State) : Action → State
  | .drop reason n => s.streamError reason n
  | .cut f => (dispatch f s).dropBytes f.length

/-- The actions of a pass, in order. -/
def runActions (s : State) (acts : List Action) : State := acts.foldl runAction s

/-! ### Meanings -/

/-- `RX_PUSH` (R160): append the byte, then run a pass. -/
def execRxPush (b : Byte) (s : State) : StepOutcome :=
  .next (runActions (s.pushByte b) (runPass (s.pushByte b).rxbuf).1).accept

/-- `RESET` (R300): the four elements take their reset values; no event. -/
def execReset (s : State) : StepOutcome :=
  .next { s with rxbuf := [], pend := [], nextId := 0, now := 0 }.accept

end Sys2Proof.Machine
end

