-- ==== Sys2Proof/Machine/Frames.lean ====
section
/-! DEFINITION. The frame types (30_encoding.md R84): the meaning of a received candidate frame of each type is what `DISPATCH`
does with it (41_reassembler.md R170). `RX_PUSH` runs the same dispatch on the frame it cuts. -/

namespace Sys2Proof.Machine

/-- `READ` received (R87, R175): CRC-valid, it has no handler. -/
def execRead (payload : Bytes) (crc : U16) (s : State) : StepOutcome :=
  .next (dispatch (frameBytes 0x10#8 payload crc) s)

/-- `WRITE` received (R88, R175). -/
def execWrite (payload : Bytes) (crc : U16) (s : State) : StepOutcome :=
  .next (dispatch (frameBytes 0x20#8 payload crc) s)

/-- `UPGRADE_DATA` received (R89, R175). -/
def execUpgradeData (payload : Bytes) (crc : U16) (s : State) : StepOutcome :=
  .next (dispatch (frameBytes 0x30#8 payload crc) s)

/-- `UPGRADE_CRC` received (R90, R175). -/
def execUpgradeCrc (payload : Bytes) (crc : U16) (s : State) : StepOutcome :=
  .next (dispatch (frameBytes 0x31#8 payload crc) s)

/-- `CONNECT` received (R91, R171): offered to the Handshake Controller. -/
def execConnect (payload : Bytes) (crc : U16) (s : State) : StepOutcome :=
  .next (dispatch (frameBytes 0xE0#8 payload crc) s)

/-- `MCU_RESET` received (R92, R171): offered to the Handshake Controller. -/
def execMcuReset (payload : Bytes) (crc : U16) (s : State) : StepOutcome :=
  .next (dispatch (frameBytes 0xF0#8 payload crc) s)

/-- `ACK_WITH_DATA` received (R93, R173): correlated. -/
def execAckWithData (payload : Bytes) (crc : U16) (s : State) : StepOutcome :=
  .next (dispatch (frameBytes 0x11#8 payload crc) s)

/-- `ACK_NO_DATA` received (R94, R173): correlated. -/
def execAckNoData (payload : Bytes) (crc : U16) (s : State) : StepOutcome :=
  .next (dispatch (frameBytes 0xF1#8 payload crc) s)

/-- Device report 0x40 received (R95, R174). -/
def execReport40 (payload : Bytes) (crc : U16) (s : State) : StepOutcome :=
  .next (dispatch (frameBytes 0x40#8 payload crc) s)

/-- Device report 0x50 received (R95, R174). -/
def execReport50 (payload : Bytes) (crc : U16) (s : State) : StepOutcome :=
  .next (dispatch (frameBytes 0x50#8 payload crc) s)

/-- Device report 0x60 received (R95, R174). -/
def execReport60 (payload : Bytes) (crc : U16) (s : State) : StepOutcome :=
  .next (dispatch (frameBytes 0x60#8 payload crc) s)

end Sys2Proof.Machine
end

