-- ==== Sys2Proof/Machine/Dispatch.lean ====
section
/-! DEFINITION. The dispatch of an instruction to its meaning, one arm per constructor of Instr. -/

namespace Sys2Proof.Machine

/-- What an instruction does. -/
def exec (i : Instr) (s : State) : Host.Outcome State Fault Refusal :=
  match i with
  | .read payload crc => Sys2Proof.Machine.execRead payload crc s
  | .write payload crc => Sys2Proof.Machine.execWrite payload crc s
  | .upgradeData payload crc => Sys2Proof.Machine.execUpgradeData payload crc s
  | .upgradeCrc payload crc => Sys2Proof.Machine.execUpgradeCrc payload crc s
  | .connect payload crc => Sys2Proof.Machine.execConnect payload crc s
  | .mcuReset payload crc => Sys2Proof.Machine.execMcuReset payload crc s
  | .ackWithData payload crc => Sys2Proof.Machine.execAckWithData payload crc s
  | .ackNoData payload crc => Sys2Proof.Machine.execAckNoData payload crc s
  | .report40 payload crc => Sys2Proof.Machine.execReport40 payload crc s
  | .report50 payload crc => Sys2Proof.Machine.execReport50 payload crc s
  | .report60 payload crc => Sys2Proof.Machine.execReport60 payload crc s
  | .crc16 bytes => Sys2Proof.Machine.execCrc16 bytes s
  | .pack value type => Sys2Proof.Machine.execPack value type s
  | .unpack raw type => Sys2Proof.Machine.execUnpack raw type s
  | .encode function payload => Sys2Proof.Machine.execEncode function payload s
  | .frameCheck frame => Sys2Proof.Machine.execFrameCheck frame s
  | .parseResponse frame aw expected type => Sys2Proof.Machine.execParseResponse frame aw expected type s
  | .parseReport payload => Sys2Proof.Machine.execParseReport payload s
  | .buildRead address => Sys2Proof.Machine.execBuildRead address s
  | .buildWrite address value type => Sys2Proof.Machine.execBuildWrite address value type s
  | .buildHandshake => Sys2Proof.Machine.execBuildHandshake s
  | .buildStatusReply fc sc => Sys2Proof.Machine.execBuildStatusReply fc sc s
  | .buildUpgradePacket index chunk => Sys2Proof.Machine.execBuildUpgradePacket index chunk s
  | .buildUpgradePackets image => Sys2Proof.Machine.execBuildUpgradePackets image s
  | .buildUpgradeCrc image count => Sys2Proof.Machine.execBuildUpgradeCrc image count s
  | .issueRead address type timeout => Sys2Proof.Machine.execIssueRead address type timeout s
  | .issueWrite address value type timeout => Sys2Proof.Machine.execIssueWrite address value type timeout s
  | .issueUpgradeData index chunk timeout => Sys2Proof.Machine.execIssueUpgradeData index chunk timeout s
  | .issueUpgradeCrc imageCrc count timeout => Sys2Proof.Machine.execIssueUpgradeCrc imageCrc count timeout s
  | .send function payload => Sys2Proof.Machine.execSend function payload s
  | .rxPush b => Sys2Proof.Machine.execRxPush b s
  | .tick => Sys2Proof.Machine.execTick s
  | .reset => Sys2Proof.Machine.execReset s

end Sys2Proof.Machine
end

