-- ==== Sys2Proof/Machine/Step.lean ====
section
/-! DEFINITION. One step of the machine: the next transaction at the input ports is taken, decoded and run (00_scope.md R16;
10_state.md R30). -/

namespace Sys2Proof.Machine

/-- One step: with quiet ports nothing happens; a transaction that decodes to nothing is refused (R105); any other is
run, and presented again if the table holds it (R204). -/
def step (s : State) : Host.Outcome State Fault Refusal :=
  match s.fetch with
  | none => .next s
  | some (t, s') =>
    match decodeCommand t with
    | none => .next s'.refuse
    | some i => presentAgain t (exec i s')

/-- The state whose next step runs the instruction of a word of spec/opcode_table.json.
A selector (8 bits) is placed, its operands zero, at the front of the input ports. A header word (32 bits) is the frame
with zero payload and crc16: all its bytes but the last are in the RX buffer, and the last stands at the input ports as an
`RxByte`, so that the next step completes the frame, cuts it and runs it. -/
def State.withFetchWord (s : State) (nbits w : Nat) : State :=
  if nbits = 32 then
    { s with
      rxbuf := (zeroFrame (BitVec.ofNat 32 w)).dropLast
      inbox := encode (.rxPush ((zeroFrame (BitVec.ofNat 32 w)).getLastD 0#8)) :: s.inbox }
  else { s with inbox := zeroTransaction (BitVec.ofNat 8 w) :: s.inbox }

end Sys2Proof.Machine
end

