-- ==== Sys2Proof/Machine/Agents.lean ====
section
/-! DEFINITION. The agents around the block (43_environment_agents.md), which the scope file puts outside it (00_scope.md R5): the
Handshake Controller, the item directory and the report handler, the calling threads, and the Upgrade Orchestrator. Nothing of the block reads them (10_state.md R37). Each is a state machine that takes what the block's ports
hand it and answers with commands for the block. -/

namespace Sys2Proof.Machine

/-! ### The commands of the `Cmd` port (R31) -/

/-- The pure commands (R31). -/
def isPure : Instr → Bool
  | .crc16 _ | .pack _ _ | .unpack _ _ | .encode _ _ | .frameCheck _ | .parseResponse _ _ _ _ | .parseReport _ => true
  | .buildRead _ | .buildWrite _ _ _ | .buildHandshake | .buildStatusReply _ _ | .buildUpgradePacket _ _ => true
  | .buildUpgradePackets _ | .buildUpgradeCrc _ _ => true
  | .read _ _ | .write _ _ | .upgradeData _ _ | .upgradeCrc _ _ | .connect _ _ | .mcuReset _ _ => false
  | .ackWithData _ _ | .ackNoData _ _ | .report40 _ _ | .report50 _ _ | .report60 _ _ => false
  | .issueRead _ _ _ | .issueWrite _ _ _ _ | .issueUpgradeData _ _ _ | .issueUpgradeCrc _ _ _ => false
  | .send _ _ | .rxPush _ | .tick | .reset => false

/-- The four `ISSUE_*` commands (R190). -/
def isIssue : Instr → Bool
  | .issueRead _ _ _ | .issueWrite _ _ _ _ | .issueUpgradeData _ _ _ | .issueUpgradeCrc _ _ _ => true
  | .crc16 _ | .pack _ _ | .unpack _ _ | .encode _ _ | .frameCheck _ | .parseResponse _ _ _ _ | .parseReport _ => false
  | .buildRead _ | .buildWrite _ _ _ | .buildHandshake | .buildStatusReply _ _ | .buildUpgradePacket _ _ => false
  | .buildUpgradePackets _ | .buildUpgradeCrc _ _ => false
  | .read _ _ | .write _ _ | .upgradeData _ _ | .upgradeCrc _ _ | .connect _ _ | .mcuReset _ _ => false
  | .ackWithData _ _ | .ackNoData _ _ | .report40 _ _ | .report50 _ _ | .report60 _ _ => false
  | .send _ _ | .rxPush _ | .tick | .reset => false

/-- The commands of the `Cmd` port (R30, R31): pure commands, `ISSUE_*` and `SEND`. A byte, a tick and a reset are inputs of other
ports, and a frame is no transaction. -/
def isCommand : Instr → Bool
  | .send _ _ => true
  | i => isPure i || isIssue i

/-- The `BUILD_*` commands (R126 to R132). -/
def isBuild : Instr → Bool
  | .buildRead _ | .buildWrite _ _ _ | .buildHandshake | .buildStatusReply _ _ | .buildUpgradePacket _ _ => true
  | .buildUpgradePackets _ | .buildUpgradeCrc _ _ => true
  | .crc16 _ | .pack _ _ | .unpack _ _ | .encode _ _ | .frameCheck _ | .parseResponse _ _ _ _ | .parseReport _ => false
  | .issueRead _ _ _ | .issueWrite _ _ _ _ | .issueUpgradeData _ _ _ | .issueUpgradeCrc _ _ _ => false
  | .read _ _ | .write _ _ | .upgradeData _ _ | .upgradeCrc _ _ | .connect _ _ | .mcuReset _ _ => false
  | .ackWithData _ _ | .ackNoData _ _ | .report40 _ _ | .report50 _ _ | .report60 _ _ => false
  | .send _ _ | .rxPush _ | .tick | .reset => false

/-! ### The Handshake Controller -/

/-- The connection state (R221). -/
inductive ConnState where
  | disconnected
  | handshaking
  | connected
deriving DecidableEq, Repr

/-- The Handshake Controller (R221 to R226). -/
structure Handshake where
  /-- The connection state. -/
  conn : ConnState
  /-- Whether the loop that sends `CONNECT` frames runs (R222, R226). -/
  sending : Bool
  /-- The auto-reply policy, an external toggle (R224): open at the start of a run (R10, R37, U10), set by `setPolicy`. -/
  autoReply : Bool
  /-- The resend interval of 0.5 s in ticks (R222, R273): a parameter. -/
  interval : Nat
  /-- Ticks until the next send. -/
  countdown : Nat
deriving DecidableEq, Repr

/-- The `CONNECT` frame, `BUILD_HANDSHAKE()`, sent with `SEND(0xE0, [])` (R222). -/
def sendConnect : Instr := .send 0xE0#8 []

/-- A connect request: `Handshaking`, and the first `CONNECT` frame (R222). R221 and R222 speak of a request while `Disconnected`;
that one while `Handshaking` or `Connected` does the same, going (back) to `Handshaking`, sending a `CONNECT` at once and
starting the interval anew, is the model's choice (log entry 14). -/
def Handshake.connect (h : Handshake) : Handshake × List Instr :=
  ({ h with conn := .handshaking, sending := true, countdown := h.interval }, [sendConnect])

/-- A tick: the loop sends a `CONNECT` frame every interval (R222). -/
def Handshake.onTick (h : Handshake) : Handshake × List Instr :=
  if h.sending = false then (h, [])
  else if h.countdown ≤ 1 then ({ h with countdown := h.interval }, [sendConnect])
  else ({ h with countdown := h.countdown - 1 }, [])

/-- A `CONNECT` frame offered (R223): a CRC-valid echo while `Handshaking` connects and stops the loop.
What the controller does with any other is not in the source (N9); here nothing (log entry 14). -/
def Handshake.onConnect (h : Handshake) (crcOk : Bool) : Handshake :=
  if crcOk && h.conn == .handshaking then { h with conn := .connected, sending := false } else h

/-- A `MCU_RESET` frame offered (R224, R225): with the policy on, a valid one is echoed and a damaged one is answered
by a status reply `CRC_ERROR`. -/
def Handshake.onMcuReset (h : Handshake) (f : Bytes) (crcOk : Bool) : List Instr :=
  if h.autoReply = false then []
  else if crcOk then [.send 0xF0#8 (payloadOf f)]
  else [.send 0xF1#8 (statusPayload 0xF0#8 0xF1#8)]

/-- An offer (R171): `HsOffer(frame, crc_ok)`. -/
def Handshake.onOffer (h : Handshake) (f : Bytes) (crcOk : Bool) : Handshake × List Instr :=
  if byteAt f 1 = 0xE0#8 then (h.onConnect crcOk, [])
  else if byteAt f 1 = 0xF0#8 then (h, h.onMcuReset f crcOk)
  else (h, [])

/-- The auto-reply policy is switched from outside (R224). -/
def Handshake.setPolicy (h : Handshake) (on : Bool) : Handshake := { h with autoReply := on }

/-- The loop is cancelled from outside (R222, R226). -/
def Handshake.cancel (h : Handshake) : Handshake := { h with sending := false }

/-- The transport is disconnected (R226). -/
def Handshake.disconnect (h : Handshake) : Handshake := { h with conn := .disconnected, sending := false }

/-! ### The item directory and the report handler -/

/-- An entry of the item directory (R230): `address -> (declared_type, permission)`. -/
structure Item where
  address : U16
  declaredType : DType
  /-- The values of `permission` are not in the source (N14). -/
  permission : Nat
deriving DecidableEq, Repr

/-- A lookup in the item directory (R230). -/
def lookupItem (directory : List Item) (address : U16) : Option Item :=
  directory.find? (·.address == address)

/-- A caller's read: the declared type comes from the directory (R230, R191). For an address the directory does not know no
command is issued: the source says nothing of it (R58, R230), the model's choice (log entry 15). -/
def callerRead (directory : List Item) (address : U16) (timeout : U32) : Option Instr :=
  (lookupItem directory address).map fun item => .issueRead address item.declaredType timeout

/-- A caller's write: eligibility is decided from `permission` before the command is issued (R61, R230, R192). For an address
the directory does not know no command is issued: the model's choice, as for a read (log entry 15). -/
def callerWrite (directory : List Item) (address : U16) (value : U32) (timeout : U32) : Option Instr :=
  (lookupItem directory address).bind fun item =>
    if Config.writeEligible item.permission then some (.issueWrite address value item.declaredType timeout) else none

/-- What the report handler forwards for a record (R227): the typed value; `none` for an address the directory does
not know, of which the source says nothing (N7). -/
def typedRecord (directory : List Item) (r : Record) : U16 × Option Int :=
  (r.1, (lookupItem directory r.1).map fun item => unpack (toBe32 r.2) item.declaredType)

/-! ### The calling threads -/

/-- Where a calling thread stands with its request (R237). -/
inductive CallerPhase where
  /-- Its command stands at the port. -/
  | issuing
  /-- It blocks on the completion of the id that `IssueAck` told it (R202, R237). -/
  | waiting (id : Nat)
  /-- `Completion` with its id has come (R202). -/
  | completed (result : Result)
  /-- Its pure command has returned (R33). -/
  | returned (v : RetVal)
  /-- Its command was accepted and has no answer (`SEND`). -/
  | accepted
  /-- Its command was refused (R105, R269). -/
  | refused
  /-- The run ended while it waited: it gets no completion (R300). -/
  | ended
deriving DecidableEq, Repr

/-- A calling thread: one request, issued from a thread of its own (R237). -/
structure Caller where
  command : Instr
  phase : CallerPhase
deriving DecidableEq, Repr

/-- `IssueAck(id)` of its own command (R220). -/
def Caller.onAck (c : Caller) (id : Nat) : Caller := { c with phase := .waiting id }

/-- `Return(v)` of its own command (R33, R220). -/
def Caller.onReturn (c : Caller) (v : RetVal) : Caller := { c with phase := .returned v }

/-- `Completion(id, result)`: the signal of the thread that waits for this id, and of no other (R202). -/
def Caller.onCompletion (id : Nat) (r : Result) (c : Caller) : Caller :=
  if c.phase = .waiting id then { c with phase := .completed r } else c

/-- Its command was accepted: with no answer among the events, that is all it learns. -/
def Caller.onAccepted (c : Caller) : Caller := if c.phase = .issuing then { c with phase := .accepted } else c

/-- Its command was refused (R269). -/
def Caller.onRefused (c : Caller) : Caller := { c with phase := .refused }

/-- `RESET`: a thread whose entry was live belongs to the run that ended (R300). -/
def Caller.onReset (c : Caller) : Caller :=
  match c.phase with
  | .waiting _ => { c with phase := .ended }
  | .issuing => c
  | .completed _ => c
  | .returned _ => c
  | .accepted => c
  | .refused => c
  | .ended => c

/-! ### The Upgrade Orchestrator -/

/-- How an upgrade fails: the upgrade-specific kinds (R236), the device's rejection (R232), and the model's names for what the
rules give no name: an image of more packets than the u16 fields count (R59, U13; log entry 18), a command that the block
refuses and a result that R232 to R234 do not speak of (log entry 16). -/
inductive UpgradeFailure where
  | sizeError
  | packetTimeout
  | upgradeFailed
  | deviceError (functionCode statusCode : Byte)
  | tooManyPackets
  | commandRefused
  | unexpected (result : Result)
deriving DecidableEq, Repr

/-- Where an upgrade stands. Attempts count from 1; `resends` counts the sends of a packet after the first. -/
inductive UpgradePhase where
  | idle
  /-- The image's `CRC16` stands at the port: its `Return` begins the first attempt (P3, rows 1 and 2). -/
  | crc
  /-- A packet is sent; `imageCrc` is kept for the confirmation. -/
  | packet (imageCrc : U16) (index resends attempt : Nat)
  | confirm (imageCrc : U16) (attempt : Nat)
  | succeeded
  | failed (why : UpgradeFailure)
deriving DecidableEq, Repr

/-- The Upgrade Orchestrator (R231 to R236). -/
structure Upgrade where
  /-- `max_retries` (R10, N6): a parameter. -/
  maxRetries : Nat
  /-- The per-packet timeout in ticks (R232, N6): a parameter. -/
  packetTimeout : U32
  /-- The confirmation timeout of 10 s in ticks (R233, R273): a parameter. -/
  confirmTimeout : U32
  /-- The image of the upgrade. -/
  image : Bytes
  phase : UpgradePhase
  /-- The id of the orchestrator's live request, once `IssueAck` has told it (R202). -/
  waiting : Option Nat
  /-- The last progress reported, `(index + 1, total)` (R232). -/
  progress : Option (Nat × Nat)
  /-- What its `BUILD_*` commands have returned, oldest first (R220); the flow needs none of it, since `ISSUE_UPGRADE_*` builds
  its own frame (R193, R194). -/
  built : List RetVal
deriving DecidableEq, Repr

/-- Whether an upgrade is under way: its next send waits for a `Completion` (R232), or the first for the CRC. -/
def Upgrade.underWay (u : Upgrade) : Bool :=
  match u.phase with
  | .crc => true
  | .packet _ _ _ _ => true
  | .confirm _ _ => true
  | .idle => false
  | .succeeded => false
  | .failed _ => false

/-- `|image| / 2048` (R231). -/
def Upgrade.total (u : Upgrade) : Nat := u.image.length / Config.packetSize

/-- Send packet `index` (R232) as a fresh request (R235). -/
def Upgrade.sendPacket (imageCrc : U16) (u : Upgrade) (index resends attempt : Nat) : Upgrade × List Instr :=
  ({ u with phase := .packet imageCrc index resends attempt, waiting := none },
    [.issueUpgradeData (BitVec.ofNat 16 index) (imageChunk u.image index) u.packetTimeout])

/-- Send the whole-image confirmation (R233), with the CRC that the block computed (R194). -/
def Upgrade.sendConfirm (imageCrc : U16) (u : Upgrade) (attempt : Nat) : Upgrade × List Instr :=
  ({ u with phase := .confirm imageCrc attempt, waiting := none },
    [.issueUpgradeCrc imageCrc (BitVec.ofNat 16 u.total) u.confirmTimeout])

/-- The upgrade ends. -/
def Upgrade.finish (u : Upgrade) (phase : UpgradePhase) : Upgrade × List Instr :=
  ({ u with phase := phase, waiting := none }, [])

/-- Packet `index` comes next, or after the last the confirmation (R232, R233). -/
def Upgrade.next (imageCrc : U16) (u : Upgrade) (index attempt : Nat) : Upgrade × List Instr :=
  if index < u.total then u.sendPacket imageCrc index 0 attempt else u.sendConfirm imageCrc attempt

/-- A whole-flow attempt, of which there are at most `max_retries` (R232, R234). -/
def Upgrade.attempt (imageCrc : U16) (u : Upgrade) (k : Nat) : Upgrade × List Instr :=
  if k ≤ u.maxRetries then u.next imageCrc 0 k else u.finish (.failed .upgradeFailed)

/-- The image's `CRC16` is asked of the block, before the first packet and once for all attempts (R194, R220; P3, row 1). -/
def Upgrade.askCrc (u : Upgrade) : Upgrade × List Instr := ({ u with phase := .crc, waiting := none }, [.crc16 u.image])

/-- An upgrade of an image begins: one that is no multiple of 2048 bytes fails at once and nothing is sent (R231); the same for
one of more packets than the u16 fields count (R59, R131), which U13 refuses and the model names (log entry 18). -/
def Upgrade.begin (u : Upgrade) : Upgrade × List Instr :=
  if u.image.length % Config.packetSize ≠ 0 then u.finish (.failed .sizeError)
  else if Config.maxU16 < u.total then u.finish (.failed .tooManyPackets)
  else u.askCrc

/-- An upgrade is asked for. While one is under way another is turned away, so that at most one request of the orchestrator's own
is live (R232, R319): the source does not speak of it, the model's choice (log entry 18). -/
def Upgrade.start (u : Upgrade) (image : Bytes) : Upgrade × List Instr :=
  if u.underWay then (u, []) else Upgrade.begin { u with image := image, progress := none }

/-- The result of a packet (R232). -/
def Upgrade.onPacket (imageCrc : U16) (u : Upgrade) (index resends attempt : Nat) : Result → Upgrade × List Instr
  | .statusSuccess _ => ({ u with progress := some (index + 1, u.total) }).next imageCrc (index + 1) attempt
  | .error .timeout =>
    if resends < u.maxRetries then u.sendPacket imageCrc index (resends + 1) attempt
    else u.finish (.failed .packetTimeout)
  | .error (.deviceError fc sc) => u.finish (.failed (.deviceError fc sc))
  | r => u.finish (.failed (.unexpected r))

/-- The result of the confirmation (R233, R234). -/
def Upgrade.onConfirm (imageCrc : U16) (u : Upgrade) (attempt : Nat) : Result → Upgrade × List Instr
  | .statusSuccess _ => u.finish .succeeded
  | .error .timeout => u.attempt imageCrc (attempt + 1)
  | .error (.deviceError fc sc) =>
    if fc = 0x31#8 ∧ sc = 0xF8#8 then u.attempt imageCrc (attempt + 1)
    else u.finish (.failed (.deviceError fc sc))
  | r => u.finish (.failed (.unexpected r))

/-- `IssueAck(id)` of the orchestrator's own command (R202). -/
def Upgrade.onAck (u : Upgrade) (id : Nat) : Upgrade := { u with waiting := some id }

/-- `Return(v)` of its `CRC16`: the first attempt begins (P3). -/
def Upgrade.onReturn (u : Upgrade) : RetVal → Upgrade × List Instr
  | .u16 imageCrc => if u.phase = .crc then u.attempt imageCrc 1 else (u, [])
  | _ => (u, [])

/-- `Return(v)` of one of its `BUILD_*` commands (R220). -/
def Upgrade.onBuilt (u : Upgrade) (v : RetVal) : Upgrade := { u with built := u.built ++ [v] }

/-- The block refuses the orchestrator's command: the upgrade fails (log entry 16). -/
def Upgrade.onRefused (u : Upgrade) : Upgrade := { u with phase := .failed .commandRefused, waiting := none }

/-- `RESET`: an upgrade whose entry was live belongs to the run that ended (R300). -/
def Upgrade.onReset (u : Upgrade) : Upgrade :=
  if u.waiting = none then u else { u with phase := .idle, waiting := none }

/-- `Completion(id, result)`: only the orchestrator's own request concerns it (R202). -/
def Upgrade.onCompletion (u : Upgrade) (id : Nat) (r : Result) : Upgrade × List Instr :=
  if u.waiting = some id then
    match u.phase with
    | .packet imageCrc index resends attempt => u.onPacket imageCrc index resends attempt r
    | .confirm imageCrc attempt => u.onConfirm imageCrc attempt r
    | .idle => (u, [])
    | .crc => (u, [])
    | .succeeded => (u, [])
    | .failed _ => (u, [])
  else (u, [])

end Sys2Proof.Machine
end

