-- ==== Sys2Proof/Machine/System.lean ====
section
/-! DEFINITION. The block with the agents around it (43_environment_agents.md R220): after each step of the block every agent
takes the events that are its own and hands its commands to the input ports. The block's step is `step`, unchanged. -/

namespace Sys2Proof.Machine

/-! ### The agents together -/

/-- Who placed a transaction at the ports: whatever drives the command port knows it, and routes `IssueAck`, `Return` and a
refusal by it (R202, R220). Any agent may issue any command (R271). -/
inductive Issuer where
  /-- The calling thread at a place of `Agents.callers`. -/
  | caller (k : Nat)
  /-- The Upgrade Orchestrator, with a command of its flow: `CRC16` and `ISSUE_UPGRADE_*`. -/
  | upgrade
  /-- The Upgrade Orchestrator, with a `BUILD_*` command. -/
  | build
  /-- The reader loop, the timer, the Handshake Controller, the user: who awaits no answer. -/
  | other
deriving DecidableEq, Repr

/-- A transaction with its issuer. -/
abbrev Placed := Issuer × Instr

/-- The agents that keep state. -/
structure Agents where
  handshake : Handshake
  /-- The item directory (R230). -/
  directory : List Item
  /-- What the report handler has forwarded to the item directory, oldest first (R227). -/
  forwarded : List (U16 × Option Int)
  /-- The calling threads, in the order of their requests (R237). -/
  callers : List Caller
  upgrade : Upgrade
deriving DecidableEq, Repr

/-- The issuer's own event: a calling thread takes it with the one function, the orchestrator's flow with the other. -/
def Agents.toIssuer (a : Agents) (who : Issuer) (forCaller : Caller → Caller) (forUpgrade : Upgrade → Upgrade) : Agents :=
  match who with
  | .caller k => { a with callers := a.callers.modify k forCaller }
  | .upgrade => { a with upgrade := forUpgrade a.upgrade }
  | .build => a
  | .other => a

/-- `Return(v)` (R33): the issuer's pure command has its answer, on which the orchestrator may go on (R220). -/
def Agents.onReturn (who : Issuer) (a : Agents) (v : RetVal) : Agents × List Placed :=
  match who with
  | .caller k => ({ a with callers := a.callers.modify k (·.onReturn v) }, [])
  | .upgrade => ({ a with upgrade := (a.upgrade.onReturn v).1 }, (a.upgrade.onReturn v).2.map fun i => (.upgrade, i))
  | .build => ({ a with upgrade := a.upgrade.onBuilt v }, [])
  | .other => (a, [])

/-- `Completion(id, result)`: only who waits for this id is concerned (R202). -/
def Agents.onCompletion (a : Agents) (id : Nat) (r : Result) : Agents × List Placed :=
  ({ a with
      callers := a.callers.map (Caller.onCompletion id r)
      upgrade := (a.upgrade.onCompletion id r).1 },
    (a.upgrade.onCompletion id r).2.map fun i => (.upgrade, i))

/-- The agents' answer to one event of a step that ran `who`'s transaction (R220). -/
def Agents.onEvent (who : Issuer) (a : Agents) : Event → Agents × List Placed
  | .hsOffer f ok => ({ a with handshake := (a.handshake.onOffer f ok).1 }, (a.handshake.onOffer f ok).2.map fun i => (.other, i))
  | .report _ records => ({ a with forwarded := a.forwarded ++ records.map (typedRecord a.directory) }, [])
  | .issueAck id => (a.toIssuer who (·.onAck id) (·.onAck id), [])
  | .completion id r => a.onCompletion id r
  | .ret v => a.onReturn who v
  | .tx _ => (a, [])
  | .discard _ _ => (a, [])

/-- The agents' answers to the events of a step, in order. -/
def Agents.onEvents (who : Issuer) : Agents → List Event → Agents × List Placed
  | a, [] => (a, [])
  | a, e :: es =>
    let r := a.onEvent who e
    let rest := Agents.onEvents who r.1 es
    (rest.1, r.2 ++ rest.2)

/-- What became of the transaction, told to its issuer (R15, R269). A held one waits (R204). -/
def Agents.onReply (who : Issuer) (a : Agents) : Reply → Agents
  | .accepted => a.toIssuer who Caller.onAccepted id
  | .refused => a.toIssuer who Caller.onRefused Upgrade.onRefused
  | .held => a
  | .none => a

/-- `RESET` (R300): the connection state starts at `Disconnected` (R36) and the handshake loop is cancelled, as for the close and
reopen that it models (R226, R301); who waited on a live entry belongs to the run that ended (log entry 17). -/
def Agents.onReset (a : Agents) : Agents :=
  { a with
    handshake := a.handshake.disconnect
    callers := a.callers.map Caller.onReset
    upgrade := a.upgrade.onReset }

/-- What the agents do at an input of the block: the handshake loop's sleep cycle is counted in the ticks the block takes (R222,
R273), and a reset ends the run for them too. -/
def Agents.onInput (a : Agents) (i : Option Instr) : Agents × List Placed :=
  if i = some .tick then ({ a with handshake := a.handshake.onTick.1 }, a.handshake.onTick.2.map fun i => (.other, i))
  else if i = some .reset then (a.onReset, [])
  else (a, [])

/-- The agents' reactions to one step of the block: to its events, its reply and its input. -/
def Agents.react (who : Issuer) (i : Option Instr) (events : List Event) (reply : Reply) (a : Agents) :
    Agents × List Placed :=
  let r := a.onEvents who events
  let t := (r.1.onReply who reply).onInput i
  (t.1, r.2 ++ t.2)

/-! ### The block and its agents -/

/-- The block and its agents. -/
structure System where
  block : State
  agents : Agents
  /-- Who placed each transaction of `block.inbox`, in the same order. -/
  issuers : List Issuer
deriving DecidableEq, Repr

/-- The transaction that the block's next step takes. -/
def nextInstr (s : State) : Option Instr := s.fetch.bind fun t => decodeCommand t.1

/-- Transactions handed to the input ports, behind those that wait: inputs from outside. -/
def System.place (y : System) (ps : List Placed) : System :=
  { y with
    block := { y.block with inbox := y.block.inbox ++ ps.map fun p => encode p.2 }
    issuers := y.issuers ++ ps.map (·.1) }

/-- The agents' reactions handed to the input ports, before those that wait: the echo of a device reset goes back immediately
(R224). The same place for every other reaction is the model's choice (log entry 19). -/
def System.answer (y : System) (ps : List Placed) : System :=
  { y with
    block := { y.block with inbox := (ps.map fun p => encode p.2) ++ y.block.inbox }
    issuers := ps.map (·.1) ++ y.issuers }

/-- The issuers of what waits after a step: a held transaction stands behind the others (R204; log entry 11). -/
def issuersAfter (issuers : List Issuer) (reply : Reply) : List Issuer :=
  if reply = .held then issuers.tail ++ [issuers.headD .other] else issuers.tail

/-- The agents react to a step of the block that took a transaction and left `s'`. -/
def System.react (y : System) (s' : State) : System :=
  let r := y.agents.react (y.issuers.headD .other) (nextInstr y.block) (s'.events.drop y.block.events.length)
    s'.reply
  System.answer { block := s', agents := r.1, issuers := issuersAfter y.issuers s'.reply } r.2

/-- One step of the block, then the agents' reactions; with quiet ports nothing happens. -/
def System.step (y : System) : Host.Outcome System Fault Refusal :=
  match y.block.inbox with
  | [] => .next y
  | _ :: _ =>
    match Machine.step y.block with
    | .next s' => .next (y.react s')
    | .fault r => .fault r
    | .refused r => .refused r

/-! ### What the outside may do -/

/-- The reader loop: each received byte becomes an `RxByte`, in order (R229). -/
def System.receive (y : System) (bytes : Bytes) : System := y.place (bytes.map fun b => (.other, .rxPush b))

/-- The timer: time passes by one tick (R220). -/
def System.timer (y : System) : System := y.place [(.other, .tick)]

/-- A requester issues a command from a calling thread of its own (R237). It reaches the command port only (R220, R271): what is
no command of that port it cannot place, a byte that no transport delivered least of all. -/
def System.request (y : System) (i : Instr) : System :=
  if isCommand i = false then y else
  System.place { y with agents := { y.agents with callers := y.agents.callers ++ [{ command := i, phase := .issuing }] } }
    [(.caller y.agents.callers.length, i)]

/-- A requester reads an address (R191, R230). -/
def System.read (y : System) (address : U16) (timeout : U32) : System :=
  match callerRead y.agents.directory address timeout with
  | some i => y.request i
  | none => y

/-- A requester writes an address (R61, R192, R230). -/
def System.write (y : System) (address : U16) (value timeout : U32) : System :=
  match callerWrite y.agents.directory address value timeout with
  | some i => y.request i
  | none => y

/-- The Handshake Controller answers an offer to come (R32, R220): under no law. -/
def System.verdict (y : System) (consumed : Bool) : System :=
  { y with block := { y.block with verdicts := y.block.verdicts ++ [consumed] } }

/-- The user asks to connect (R222). -/
def System.connect (y : System) : System :=
  System.place { y with agents := { y.agents with handshake := y.agents.handshake.connect.1 } }
    (y.agents.handshake.connect.2.map fun i => (.other, i))

/-- The handshake loop is cancelled from outside (R222, R226). -/
def System.cancel (y : System) : System :=
  { y with agents := { y.agents with handshake := y.agents.handshake.cancel } }

/-- The auto-reply policy is switched from outside (R224). -/
def System.setPolicy (y : System) (on : Bool) : System :=
  { y with agents := { y.agents with handshake := y.agents.handshake.setPolicy on } }

/-- The user asks for an upgrade (R231). -/
def System.upgrade (y : System) (image : Bytes) : System :=
  let r := y.agents.upgrade.start image
  System.place { y with agents := { y.agents with upgrade := r.1 } } (r.2.map fun i => (.upgrade, i))

/-- The Upgrade Orchestrator builds a frame (R220); what is no `BUILD_*` command it does not place so. -/
def System.build (y : System) (i : Instr) : System := if isBuild i then y.place [(.build, i)] else y

/-- The transport closes: the controller disconnects (R226), and the block is reset (R301; log entry 17). -/
def System.close (y : System) : System :=
  System.place { y with agents := { y.agents with handshake := y.agents.handshake.disconnect } } [(.other, .reset)]

/-! ### The start of a run -/

/-- The agents at the start of a run: disconnected (R36's last row, R221, R300), nothing forwarded, no caller, no upgrade. What the
source leaves open (R10, R37) is an argument: the auto-reply policy, the resend interval, the retry limit, the timeouts. -/
def Agents.start (autoReply : Bool) (interval maxRetries : Nat) (packetTimeout confirmTimeout : U32) (directory : List Item) :
    Agents where
  handshake := { conn := .disconnected, sending := false, autoReply := autoReply, interval := interval, countdown := 0 }
  directory := directory
  forwarded := []
  callers := []
  upgrade :=
    { maxRetries := maxRetries, packetTimeout := packetTimeout, confirmTimeout := confirmTimeout, image := []
      phase := .idle, waiting := none, progress := none, built := [] }

/-- The block after reset, with the agents at the start of a run. -/
def System.start (agents : Agents) : System := { block := State.reset, agents := agents, issuers := [] }

end Sys2Proof.Machine
end

