-- ==== Sys2Proof/Safety.lean ====
section
/-! DEFINITION. What counts as a safe run, in the terms the claims use: the invariants between steps (10_state.md R35), and the
words in which the rules speak of frames, streams, tables and event lists. -/

namespace Sys2Proof.Machine

/-! ### Invariants between steps -/

/-- R35 item 1, the waiting invariant of `rxbuf`: fewer than 6 bytes, or a head, a recognised code, and fewer bytes than the
frame they begin. -/
def Waiting (buf : Bytes) : Prop :=
  buf.length < Config.minFrame ∨
    (byteAt buf 0 = Config.head ∧ recognised (byteAt buf 1) = true ∧ buf.length < frameTotal buf)

/-- R35 item 5: an entry has time left, or has timeout 0 and was stamped with the present `now`. -/
def Alive (p : Params) (now : Nat) (e : Entry) : Prop :=
  elapsed p now e.creationTime < e.timeout ∨ (e.timeout = 0 ∧ e.creationTime = now)

/-- The fields of an entry fit their widths (R25). -/
def FieldsFit (p : Params) (e : Entry) : Prop :=
  e.id < 2 ^ p.idW ∧ e.creationTime < 2 ^ p.timeW ∧ e.timeout < 2 ^ p.timeW

/-- The invariants between steps (R35), with the widths of R25 to R27. -/
structure Inv (s : State) : Prop where
  /-- R35 item 1. -/
  waiting : Waiting s.rxbuf
  /-- R35 item 2; so a push never overfills `RXBUF_CAP` (R160). -/
  bounded : s.rxbuf.length + 1 ≤ Config.rxbufCap
  /-- R35 item 3. -/
  idsDistinct : (liveIds s.pend).Nodup
  /-- R35 item 4. -/
  withinCapacity : ∀ n, s.params.nPending = some n → s.pend.length ≤ n
  /-- R35 item 5. -/
  alive : ∀ e ∈ s.pend, Alive s.params s.now e
  /-- R26. -/
  nextIdFits : s.nextId < 2 ^ s.params.idW
  /-- R27. -/
  nowFits : s.now < 2 ^ s.params.timeW
  /-- R25. -/
  fieldsFit : ∀ e ∈ s.pend, FieldsFit s.params e

/-! ### The CRC -/

/-- The pseudocode of R120 on numbers: one of the 8 repetitions. -/
def crcRepeat (crc : Nat) : Nat :=
  if crc &&& 0x8000 ≠ 0 then ((crc <<< 1) ^^^ 0x1021) &&& 0xFFFF else (crc <<< 1) &&& 0xFFFF

/-- The pseudocode of R120 on numbers. -/
def crcNumber (crc : Nat) : Bytes → Nat
  | [] => crc
  | b :: bs => crcNumber (Nat.repeat crcRepeat 8 (crc ^^^ (b.toNat <<< 8))) bs

/-- R120 on numbers, the register masked only at the end, as the source words it: one repetition without the mask. -/
def crcRepeatLate (crc : Nat) : Nat :=
  if crc &&& 0x8000 ≠ 0 then (crc <<< 1) ^^^ 0x1021 else crc <<< 1

/-- R120 on numbers without the mask. -/
def crcNumberLate (crc : Nat) : Bytes → Nat
  | [] => crc
  | b :: bs => crcNumberLate (Nat.repeat crcRepeatLate 8 (crc ^^^ (b.toNat <<< 8))) bs

/-! ### Frames -/

/-- A body with its CRC behind it, big-endian (R80, R86). -/
def withCrc (init : U16) (body : Bytes) : Bytes := body ++ toBe16 (crc16 init body)

/-- The frame of R130, written out: always 2058 bytes. -/
def packetFrame (p : Params) (index : U16) (chunk : Bytes) : Bytes :=
  withCrc p.crcInit ([0x5A#8, 0x30#8, 0x08#8, 0x04#8] ++ toBe16 p.upgradeModeTag ++ toBe16 index ++ chunk ++
    List.replicate (2048 - chunk.length) 0x00#8)

/-- A candidate frame that the pass can cut: well-framed with a recognised code (R18, R169). -/
def Candidate (f : Bytes) : Prop := wellFramed f = true ∧ recognised (byteAt f 1) = true

/-- The value range of a declared type (R98); of `float32`, the 32-bit patterns. -/
def InRange : DType → Int → Prop
  | .int8, v => -128 ≤ v ∧ v ≤ 127
  | .uint8, v => 0 ≤ v ∧ v ≤ 255
  | .int16, v => -32768 ≤ v ∧ v ≤ 32767
  | .uint16, v => 0 ≤ v ∧ v ≤ 65535
  | .int32, v => -2147483648 ≤ v ∧ v ≤ 2147483647
  | .uint32, v => 0 ≤ v ∧ v ≤ 4294967295
  | .float32, v => 0 ≤ v ∧ v ≤ 4294967295

/-! ### Streams -/

/-- The candidate frames among the actions of a pass, in order: the sequence of `DISPATCH` calls. -/
def cutFrames : List Action → List Bytes
  | [] => []
  | .cut f :: acts => f :: cutFrames acts
  | .drop _ _ :: acts => cutFrames acts

/-- The `Discard` events of the bytes a pass drops (R262), the cut frames left out. -/
def dropEvents : List Action → List Event
  | [] => []
  | .drop reason n :: acts => .discard reason n :: dropEvents acts
  | .cut _ :: acts => dropEvents acts

/-- A stream fed as chunks, with a pass after each chunk (R160, R177): all actions, and the bytes left over. -/
def feed (buf : Bytes) : List Bytes → List Action × Bytes
  | [] => ([], buf)
  | c :: cs => ((runPass (buf ++ c)).1 ++ (feed (runPass (buf ++ c)).2 cs).1, (feed (runPass (buf ++ c)).2 cs).2)

/-- Garbage that starts no frame (R178): no head byte in it has a recognised code behind it, in what follows it. -/
def Harmless (garbage next : Bytes) : Prop :=
  ∀ i, i < garbage.length → byteAt garbage i = Config.head → recognised (byteAt (garbage ++ next) (i + 1)) = false

/-! ### Runs and events -/

/-- Several instructions, one after another. -/
def execAll : List Instr → State → StepOutcome
  | [], s => .next s
  | i :: is, s =>
    match exec i s with
    | .next s' => execAll is s'
    | .fault r => .fault r
    | .refused r => .refused r

/-- What an accepted `ISSUE` leaves (R190): the entry behind the others, stamped with `now`; the id counter behind the id; the
frame, then the id. -/
def issued (s : State) (id : Nat) (request : Request) (timeout : U32) (frame : Bytes) : State :=
  { s with
    pend := s.pend ++ [{ id := id, request := request, creationTime := s.now, timeout := timeout.toNat }]
    nextId := (id + 1) % 2 ^ s.params.idW
    events := s.events ++ [.tx frame, .issueAck id]
    reply := .accepted }

/-- How often `IssueAck(id)` stands in a list of events. -/
def acksOf (id : Nat) (evs : List Event) : Nat := evs.countP (· == .issueAck id)

/-- Whether an event is `Completion(id, _)`. -/
def isCompletion (id : Nat) : Event → Bool
  | .completion k _ => k == id
  | _ => false

/-- How often `Completion(id, _)` stands in a list of events. -/
def completionsOf (id : Nat) (evs : List Event) : Nat := evs.countP (isCompletion id)

/-- How many live entries have an id. -/
def liveCount (id : Nat) (pend : List Entry) : Nat := (liveIds pend).count id

/-- The `ACK_WITH_DATA` frame by which a device answers a read (R93), CRC-valid. -/
def dataAck (init : U16) (address : U16) (raw : U32) : Instr :=
  .ackWithData (toBe16 address ++ toBe32 raw)
    (crc16 init ([0x5A#8, 0x11#8, 0x00#8, 0x06#8] ++ toBe16 address ++ toBe32 raw))

/-- The orchestrator alone, each of its requests acknowledged and answered with `OK`: the commands it issues and where it ends. -/
def allOk : Nat → Upgrade × List Instr → Upgrade × List Instr
  | 0, r => r
  | k + 1, r =>
    let next := (r.1.onAck k).onCompletion k (.statusSuccess 0x00#8)
    allOk k (next.1, r.2 ++ next.2)

/-- The orchestrator alone, asked for an upgrade, with the value that its `CRC16` command returns. -/
def startedWith (u : Upgrade) (image : Bytes) (crc : U16) : Upgrade × List Instr :=
  let asked := u.start image
  let told := asked.1.onReturn (.u16 crc)
  (told.1, asked.2 ++ told.2)

/-- Two states agree on the four elements of R20 and on the parameters. -/
def SameElements (s t : State) : Prop :=
  s.rxbuf = t.rxbuf ∧ s.pend = t.pend ∧ s.nextId = t.nextId ∧ s.now = t.now ∧ s.params = t.params

/-- The instructions that can remove an entry by a match or insert one, tick, or reset: those that may change `pend` (R25). -/
def mayChangePend : Instr → Bool
  | .issueRead _ _ _ | .issueWrite _ _ _ _ | .issueUpgradeData _ _ _ | .issueUpgradeCrc _ _ _ => true
  | .ackWithData _ _ | .ackNoData _ _ | .rxPush _ | .tick | .reset => true
  | .crc16 _ | .pack _ _ | .unpack _ _ | .encode _ _ | .frameCheck _ | .parseResponse _ _ _ _ | .parseReport _ => false
  | .buildRead _ | .buildWrite _ _ _ | .buildHandshake | .buildStatusReply _ _ | .buildUpgradePacket _ _ => false
  | .buildUpgradePackets _ | .buildUpgradeCrc _ _ => false
  | .read _ _ | .write _ _ | .upgradeData _ _ | .upgradeCrc _ _ | .connect _ _ | .mcuReset _ _ => false
  | .report40 _ _ | .report50 _ _ | .report60 _ _ | .send _ _ => false

end Sys2Proof.Machine
end

