-- ==== Sys2Proof/Certificates/Slice0/Obligations.lean ====
section
/-! DEFINITION. The statements for the provers. Each docstring names the rules of spec/ it formalises, or says that it rests on
the model's own choice and names the log entry. Every statement about a next state also writes out the model's own fields:
what is appended to `events` (log entry 6), what `reply` says (log entry 7), and for an offer `verdicts` and `offers` (log
entry 5); the rules give the event or the outcome, the field that shows it is the model's. -/

open Sys2Proof Sys2Proof.Machine

/-! ### Encodings -/

/-- R80, R84, R105: decoding the bytes of a well-formed instruction gives the instruction back. The layout of a command's
operands is the model's choice (log entry 9). -/
def Obligations.DecodeEncodeAgree : Prop :=
  ∀ i : Instr, i.wellFormed = true → decode (encode i) = some i

/-- Each byte string has one reading: what decodes to an instruction is that instruction's encoding. The layout of a command's
operands is the model's choice (log entry 9). -/
def Obligations.DecodedBytesReencode : Prop :=
  (∀ f i, decodeFrame f = some i → encode i = f ∧ i.wellFormed = true) ∧
  (∀ t i, decodeCommand t = some i → encode i = t)

/-- R84: the recognised codes are exactly the eleven of the table. -/
def Obligations.RecognisedCodesAreEleven : Prop :=
  ∀ b : Byte, recognised b = true ↔
    b ∈ ([0x10#8, 0x20#8, 0x30#8, 0x31#8, 0xE0#8, 0xF0#8, 0x11#8, 0xF1#8, 0x40#8, 0x50#8, 0x60#8] : List Byte)

/-- R18, R82: a byte string decodes as a frame exactly if it is well-framed with a recognised code. -/
def Obligations.FramesDecodeExactlyCandidates : Prop :=
  ∀ f : Bytes, (∃ i, decodeFrame f = some i) ↔
    (6 ≤ f.length ∧ byteAt f 0 = 0x5A#8 ∧ f.length = 6 + (be16 (slice f 2 4)).toNat ∧ recognised (byteAt f 1) = true)

/-- Words written out from the spec's encodings decode to what they stand for: frames of 95_test_vectors.md, and selectors
of R105 with the model's operand layout (log entry 9). -/
def Obligations.SpecWordsDecode : Prop :=
  decodeFrame [0x5A, 0x10, 0x00, 0x02, 0x12, 0x00, 0xF7, 0xAD] = some (.read [0x12, 0x00] 0xF7AD) ∧
  decodeFrame [0x5A, 0x11, 0x00, 0x06, 0x12, 0x00, 0x00, 0x00, 0x00, 0xFF, 0x05, 0xB8] =
    some (.ackWithData [0x12, 0x00, 0x00, 0x00, 0x00, 0xFF] 0x05B8) ∧
  decodeFrame [0x5A, 0xF1, 0x00, 0x02, 0x20, 0xF3, 0xDA, 0x7B] = some (.ackNoData [0x20, 0xF3] 0xDA7B) ∧
  decodeFrame [0x5A, 0x99, 0x00, 0x00, 0x7F, 0xF8] = none ∧
  decodeCommand [0x20, 0x12, 0x00, 0x00, 0x00, 0x00, 0x00, 0x64] = some (.issueRead 0x1200 .int8 100) ∧
  decodeCommand [0x30, 0xAD] = some (.rxPush 0xAD) ∧
  decodeCommand [0x31] = some .tick ∧
  decodeCommand [0x3F] = some .reset

/-- R105's last sentence: a selector outside the table is refused: nothing changes and no event is emitted. (That a refused
transaction leaves the port, and that `reply` says so, is the model's choice: log entries 3, 7.) -/
def Obligations.UnknownSelectorRefused : Prop :=
  ∀ (s : State) (op : Byte) (args : Bytes) (rest : List Bytes), s.inbox = (op :: args) :: rest →
    op ∉ ([0x01, 0x02, 0x03, 0x04, 0x05, 0x06, 0x07, 0x10, 0x11, 0x12, 0x13, 0x14, 0x15, 0x16, 0x20, 0x21, 0x22, 0x23, 0x24,
      0x30, 0x31, 0x3F] : List Byte) →
    step s = .next { s with inbox := rest, reply := .refused }

/-! ### Typed values -/

/-- R137: in range every value round-trips; out of range it wraps; and the reverse form. -/
def Obligations.PackUnpackRoundTrip : Prop :=
  (∀ t v, InRange t v → unpack (pack v t) t = v) ∧
  (∀ t v, typeSigned t = true → unpack (pack v t) t = sext (typeBits t) (v % (2 ^ typeBits t : Nat)).toNat) ∧
  (∀ t v, typeSigned t = false → unpack (pack v t) t = v % (2 ^ typeBits t : Nat)) ∧
  (∀ t (raw : U32), pack (unpack (toBe32 raw) t) t = toBe32 (BitVec.ofNat 32 (raw.toNat % 2 ^ typeBits t))) ∧
  (∀ t (raw : U32), pack (unpack (toBe32 raw) t) t = toBe32 raw ↔ raw.toNat < 2 ^ typeBits t)

/-- R122: `PACK` of an integer is the 4 bytes of the value modulo `2^N`, whatever the value; on the port, where the value is a
32-bit word, the command returns them and changes nothing else. -/
def Obligations.PackReturnsLowBits : Prop :=
  (∀ (value : Int) (t : DType), pack value t = toBe32 (BitVec.ofInt 32 (value % ((2 ^ typeBits t : Nat) : Int)))) ∧
  ∀ (value : U32) (t : DType) (s : State),
    exec (.pack value t) s = .next { s with
      events := s.events ++ [.ret (.bytes (toBe32 (BitVec.ofNat 32 (value.toNat % 2 ^ typeBits t))))]
      reply := .accepted }

/-- R123: `UNPACK` returns the low `N` bits, made negative by subtracting `2^N` where the type is signed and they are at
least `2^(N-1)`, and changes nothing else. -/
def Obligations.UnpackSignExtends : Prop :=
  ∀ (raw : U32) (t : DType) (s : State),
    exec (.unpack raw t) s = .next { s with
      events := s.events ++ [.ret (.value
        (if typeSigned t = true ∧ 2 ^ (typeBits t - 1) ≤ raw.toNat % 2 ^ typeBits t
         then ((raw.toNat % 2 ^ typeBits t : Nat) : Int) - (2 ^ typeBits t : Nat)
         else ((raw.toNat % 2 ^ typeBits t : Nat) : Int)))]
      reply := .accepted }

/-! ### The CRC -/

/-- R120: `CRC16` returns what the pseudocode computes from `CRC_INIT`, and changes nothing else; masking once at the end
gives the same. -/
def Obligations.CrcComputesPseudocode : Prop :=
  (∀ (init : U16) (bs : Bytes), (crc16 init bs).toNat = crcNumber init.toNat bs) ∧
  (∀ (init : U16) (bs : Bytes), crcNumberLate init.toNat bs &&& 0xFFFF = (crc16 init bs).toNat) ∧
  (∀ init : U16, crc16 init [] = init) ∧
  (∀ (bs : Bytes) (s : State), exec (.crc16 bs) s = .next { s with
    events := s.events ++ [.ret (.u16 (BitVec.ofNat 16 (crcNumber s.params.crcInit.toNat bs)))]
    reply := .accepted })

/-- R121: determinism, residue, detection of a single-bit flip, and continuation. -/
def Obligations.CrcProperties : Prop :=
  (∀ (init : U16) (a b : Bytes), a = b → crc16 init a = crc16 init b) ∧
  (∀ (init : U16) (m : Bytes), crc16 init (m ++ toBe16 (crc16 init m)) = 0#16) ∧
  (∀ (init : U16) (m : Bytes) (i k : Nat), i < m.length → k < 8 →
    crc16 init (m.set i (byteAt m i ^^^ (1#8 <<< k))) ≠ crc16 init m) ∧
  (∀ (init : U16) (a b : Bytes), crc16 init (a ++ b) = crc16 (crc16 init a) b)

/-- R125: `FRAME_CHECK` answers whether the last two bytes are the CRC of all before them, false with fewer than two bytes;
equivalently for two or more, whether the CRC of the whole is zero. It changes nothing else. -/
def Obligations.FrameCheckTestsTheCrc : Prop :=
  (∀ (f : Bytes) (s : State), exec (.frameCheck f) s = .next { s with
    events := s.events ++ [.ret (.bool (frameCheck s.params.crcInit f))]
    reply := .accepted }) ∧
  (∀ (init : U16) (f : Bytes), f.length < 2 → frameCheck init f = false) ∧
  (∀ (init : U16) (m : Bytes) (h l : Byte),
    frameCheck init (m ++ [h, l]) = true ↔ (be16 [h, l] = crc16 init m)) ∧
  (∀ (init : U16) (f : Bytes), 2 ≤ f.length → (frameCheck init f = true ↔ crc16 init f = 0#16))

/-! ### Building frames -/

/-- R124: `ENCODE` returns head, function, length, payload and CRC; a payload of more than 65535 bytes is refused with
nothing changed (that `reply` says so is the model's choice, log entry 7). -/
def Obligations.EncodeBuildsTheFrame : Prop :=
  ∀ (fn : Byte) (payload : Bytes) (s : State),
    (payload.length ≤ 65535 → exec (.encode fn payload) s = .next { s with
      events := s.events ++ [.ret (.frame (withCrc s.params.crcInit
        ([0x5A#8, fn] ++ toBe16 (BitVec.ofNat 16 payload.length) ++ payload)))]
      reply := .accepted }) ∧
    (65535 < payload.length → exec (.encode fn payload) s = .next { s with reply := .refused })

/-- R124's corner case, R224: encoding the function and payload of a well-framed frame with a valid CRC gives the frame back, so
`SEND` echoes it byte for byte. -/
def Obligations.EchoReproducesTheFrame : Prop :=
  ∀ (f : Bytes) (s : State), wellFramed f = true → frameCheck s.params.crcInit f = true →
    encodeFrame s.params.crcInit (byteAt f 1) (payloadOf f) = f ∧
    exec (.send (byteAt f 1) (payloadOf f)) s =
      .next { s with events := s.events ++ [.tx f], reply := .accepted }

/-- R126, R127, R128, R129, R132: each builder returns its frame, and changes nothing else. -/
def Obligations.BuildersReturnTheirFrames : Prop :=
  ∀ s : State,
    (∀ a, exec (.buildRead a) s = .next { s with
      events := s.events ++ [.ret (.frame (withCrc s.params.crcInit ([0x5A#8, 0x10#8, 0x00#8, 0x02#8] ++ toBe16 a)))]
      reply := .accepted }) ∧
    (∀ a (v : U32) t, exec (.buildWrite a v t) s = .next { s with
      events := s.events ++ [.ret (.frame (withCrc s.params.crcInit ([0x5A#8, 0x20#8, 0x00#8, 0x06#8] ++ toBe16 a ++
        toBe32 (BitVec.ofNat 32 (v.toNat % 2 ^ typeBits t)))))]
      reply := .accepted }) ∧
    (exec .buildHandshake s = .next { s with
      events := s.events ++ [.ret (.frame (withCrc s.params.crcInit [0x5A#8, 0xE0#8, 0x00#8, 0x00#8]))]
      reply := .accepted }) ∧
    (∀ fc sc, exec (.buildStatusReply fc sc) s = .next { s with
      events := s.events ++ [.ret (.frame (withCrc s.params.crcInit [0x5A#8, 0xF1#8, 0x00#8, 0x02#8, fc, sc]))]
      reply := .accepted }) ∧
    (∀ image n, exec (.buildUpgradeCrc image n) s = .next { s with
      events := s.events ++ [.ret (.frame (withCrc s.params.crcInit ([0x5A#8, 0x31#8, 0x00#8, 0x04#8] ++
        toBe16 (crc16 s.params.crcInit image) ++ toBe16 n)))]
      reply := .accepted })

/-- R130: a chunk of at most 2048 bytes gives a frame of 2058 bytes with length 0x0804, zero-padded; a longer one is refused
with nothing changed (that `reply` says so is the model's choice, log entry 7). -/
def Obligations.UpgradePacketIsPadded : Prop :=
  ∀ (index : U16) (chunk : Bytes) (s : State),
    (chunk.length ≤ 2048 →
      (packetFrame s.params index chunk).length = 2058 ∧
      exec (.buildUpgradePacket index chunk) s = .next { s with
        events := s.events ++ [.ret (.frame (packetFrame s.params index chunk))]
        reply := .accepted }) ∧
    (2048 < chunk.length → exec (.buildUpgradePacket index chunk) s = .next { s with reply := .refused })

/-- R131: `ceil(|image| / 2048)` frames with indices from 0, each carrying its 2048 bytes of the image, only the last padded;
more than 65535 packets are refused with nothing changed (that `reply` says so is the model's choice, log entry 7). -/
def Obligations.UpgradePacketsCutTheImage : Prop :=
  ∀ (image : Bytes) (s : State),
    (image.length ≤ 2048 * 65535 → ∃ frames : List Bytes,
      exec (.buildUpgradePackets image) s = .next { s with
        events := s.events ++ [.ret (.frames frames)]
        reply := .accepted } ∧
      frames.length = (image.length + 2047) / 2048 ∧
      (∀ i, i < frames.length → frames[i]? =
        some (packetFrame s.params (BitVec.ofNat 16 i) ((image.drop (2048 * i)).take 2048))) ∧
      ∃ zeros, (List.range frames.length).flatMap (fun i => (frames.getD i []).drop 8 |>.take 2048) =
        image ++ List.replicate zeros 0x00#8 ∧ zeros < 2048) ∧
    (2048 * 65535 < image.length → exec (.buildUpgradePackets image) s = .next { s with reply := .refused })

/-! ### Parsing -/

/-- R134: a payload whose length is no multiple of 6 is `Malformed`; any other gives its records in order, so records written
out one after another are read back. -/
def Obligations.ParseReportReadsRecords : Prop :=
  (∀ (p : Bytes) (s : State), p.length % 6 ≠ 0 → exec (.parseReport p) s = .next { s with
    events := s.events ++ [.ret (.error .malformed)]
    reply := .accepted }) ∧
  (∀ (p : Bytes) (s : State), p.length % 6 = 0 → exec (.parseReport p) s = .next { s with
    events := s.events ++ [.ret (.records ((List.range (p.length / 6)).map fun i =>
      (be16 (slice p (6 * i) (6 * i + 2)), be32 (slice p (6 * i + 2) (6 * i + 6)))))]
    reply := .accepted }) ∧
  (∀ (rs : List Record) (s : State),
    exec (.parseReport (rs.flatMap fun r => toBe16 r.1 ++ toBe32 r.2)) s = .next { s with
      events := s.events ++ [.ret (.records rs)]
      reply := .accepted })

/-- R133: the tests in their order, and the result of each. `PARSE_RESPONSE` returns it and changes nothing else. -/
def Obligations.ParseResponseTestsInOrder : Prop :=
  (∀ f aw ea t (s : State), exec (.parseResponse f aw ea t) s = .next { s with
    events := s.events ++ [.ret (.result (parseResponse s.params.crcInit f aw ea t))]
    reply := .accepted }) ∧
  (∀ (init : U16) (f : Bytes) (aw : Bool) (ea : Option U16) (t : DType),
    (f.length < 2 → parseResponse init f aw ea t = .error .malformed) ∧
    (2 ≤ f.length → frameCheck init f = false → parseResponse init f aw ea t = .error .crcMismatch) ∧
    (2 ≤ f.length → frameCheck init f = true → f.length < 6 → parseResponse init f aw ea t = .error .malformed) ∧
    (6 ≤ f.length → frameCheck init f = true →
      (byteAt f 1 = 0x11#8 →
        (aw = true → parseResponse init f aw ea t = .error .unexpectedData) ∧
        (aw = false → f.length ≠ 12 → parseResponse init f aw ea t = .error .badLength) ∧
        (aw = false → f.length = 12 → (∃ x, ea = some x ∧ be16 (slice f 4 6) ≠ x) →
          parseResponse init f aw ea t = .error .addressMismatch) ∧
        (aw = false → f.length = 12 → (∀ x, ea = some x → be16 (slice f 4 6) = x) →
          parseResponse init f aw ea t = .readSuccess (be16 (slice f 4 6)) (unpack (slice f 6 10) t))) ∧
      (byteAt f 1 = 0xF1#8 →
        (f.length ≠ 8 → parseResponse init f aw ea t = .error .badLength) ∧
        (f.length = 8 → aw = true → byteAt f 5 = 0x00#8 → parseResponse init f aw ea t = .statusSuccess 0x00#8) ∧
        (f.length = 8 → ¬ (aw = true ∧ byteAt f 5 = 0x00#8) →
          parseResponse init f aw ea t = .error (.deviceError (byteAt f 4) (byteAt f 5)))) ∧
      (byteAt f 1 ≠ 0x11#8 → byteAt f 1 ≠ 0xF1#8 → parseResponse init f aw ea t = .error .unknownResponseType)))

/-- R138: a pure command answers in every state, with one value or a refusal that depend on its operands and on `CRC_INIT` and
`UPGRADE_MODE_TAG` alone, and changes nothing else (that `reply` says so is the model's choice, log entry 7). -/
def Obligations.PureCommandsChangeNothing : Prop :=
  ∀ (i : Instr) (crcInit modeTag : U16), isPure i = true → ∃ answer : Option RetVal, ∀ s : State,
    s.params.crcInit = crcInit → s.params.upgradeModeTag = modeTag →
    exec i s = .next (match answer with
      | some v => { s with events := s.events ++ [.ret v], reply := .accepted }
      | none => { s with reply := .refused })

/-! ### The reassembler -/

/-- R161, with S1 to S7 of R162 to R169: what one trip does, by the bytes in the buffer. -/
def Obligations.PassFollowsItsSteps : Prop :=
  (∀ buf : Bytes, buf.length < 6 → trip buf = .stop [] buf) ∧
  (∀ buf : Bytes, 6 ≤ buf.length → 0x5A#8 ∉ buf → trip buf = .stop [.drop .noHead buf.length] []) ∧
  (∀ g rest : Bytes, 0x5A#8 ∉ g → 6 ≤ (g ++ 0x5A#8 :: rest).length →
    let dropped : List Action := if g = [] then [] else [.drop .beforeHead g.length]
    let h := 0x5A#8 :: rest
    (h.length < 6 → trip (g ++ h) = .stop dropped h) ∧
    (6 ≤ h.length → recognised (byteAt h 1) = false → 0x5A#8 ∉ rest →
      trip (g ++ h) = .stop (dropped ++ [.drop .badFunction h.length]) []) ∧
    (6 ≤ h.length → recognised (byteAt h 1) = false → ∀ g' rest' : Bytes, 0x5A#8 ∉ g' → rest = g' ++ 0x5A#8 :: rest' →
      trip (g ++ h) = .again (dropped ++ [.drop .badFunction (1 + g'.length)]) (0x5A#8 :: rest')) ∧
    (6 ≤ h.length → recognised (byteAt h 1) = true → h.length < 6 + (be16 (slice h 2 4)).toNat →
      trip (g ++ h) = .stop dropped h) ∧
    (6 ≤ h.length → recognised (byteAt h 1) = true → 6 + (be16 (slice h 2 4)).toNat ≤ h.length →
      trip (g ++ h) = .again (dropped ++ [.cut (h.take (6 + (be16 (slice h 2 4)).toNat))])
        (h.drop (6 + (be16 (slice h 2 4)).toNat))))

/-- R176: a trip that goes on removes at least one byte, so a pass over `n` bytes is over after `n` trips, more trips do
nothing, and what it leaves makes a further pass do nothing. -/
def Obligations.PassEnds : Prop :=
  (∀ buf acts rest, trip buf = .again acts rest → rest.length < buf.length) ∧
  (∀ (buf : Bytes) (k : Nat), passTrips (buf.length + k) buf = runPass buf) ∧
  (∀ buf : Bytes, runPass (runPass buf).2 = ([], (runPass buf).2))

/-- R35 item 1 for the pass alone: whatever it is given, what it leaves satisfies the waiting invariant. -/
def Obligations.PassLeavesWaiting : Prop :=
  ∀ buf : Bytes, Waiting (runPass buf).2

/-- R177: for every way of feeding a stream in chunks the dispatched frames are the same, in the same order, and what is left
over is a suffix of the stream that holds no complete candidate at its front. -/
def Obligations.ChunkingDoesNotMatter : Prop :=
  ∀ chunks : List Bytes,
    cutFrames (feed [] chunks).1 = cutFrames (runPass chunks.flatten).1 ∧
    cutFrames (feed [] (chunks.flatten.map fun b => [b])).1 = cutFrames (runPass chunks.flatten).1 ∧
    (feed [] chunks).2 <:+ chunks.flatten ∧
    runPass (feed [] chunks).2 = ([], (feed [] chunks).2)

/-- R178, R181: valid frames with garbage before each are all extracted, in order and nothing else, where no head byte of the
garbage has a recognised code behind it, however the stream is cut into chunks; and garbage that begins a long frame swallows what
follows it, up to 65541 bytes. -/
def Obligations.FramesThroughGarbage : Prop :=
  (∀ (parts : List (Bytes × Bytes)) (chunks : List Bytes),
    (∀ x ∈ parts, Candidate x.2 ∧ Harmless x.1 x.2) → chunks.flatten = parts.flatMap (fun x => x.1 ++ x.2) →
    cutFrames (feed [] chunks).1 = parts.map Prod.snd) ∧
  (∀ rest : Bytes, 4 + rest.length < 65541 →
    runPass ([0x5A#8, 0x10#8, 0xFF#8, 0xFF#8] ++ rest) = ([], [0x5A#8, 0x10#8, 0xFF#8, 0xFF#8] ++ rest))

/-- R160's corner case: with the waiting invariant a pushed byte completes at most one frame, and then nothing is left. -/
def Obligations.OneFramePerByte : Prop :=
  ∀ (buf : Bytes) (b : Byte), Waiting buf →
    cutFrames (runPass (buf ++ [b])).1 = [] ∨
    (∃ f, Candidate f ∧ cutFrames (runPass (buf ++ [b])).1 = [f] ∧ (runPass (buf ++ [b])).2 = [])

/-- R160: `RX_PUSH` is always accepted. It appends the byte and runs a pass, whose actions happen in order; the id counter, the
tick counter and the parameters stay, and without a frame so does the table, and the events are the discards alone. -/
def Obligations.RxPushRunsAPass : Prop :=
  ∀ (b : Byte) (s : State), ∃ t,
    exec (.rxPush b) s = .next t ∧
    t = { ((runPass (s.rxbuf ++ [b])).1.foldl runAction { s with rxbuf := s.rxbuf ++ [b] }) with reply := .accepted } ∧
    t.rxbuf = (runPass (s.rxbuf ++ [b])).2 ∧ t.nextId = s.nextId ∧ t.now = s.now ∧ t.params = s.params ∧ t.inbox = s.inbox ∧
    (cutFrames (runPass (s.rxbuf ++ [b])).1 = [] → t.pend = s.pend ∧ t.verdicts = s.verdicts ∧ t.offers = s.offers ∧
      t.events = s.events ++ dropEvents (runPass (s.rxbuf ++ [b])).1)

/-- R169: where a pushed byte completes a candidate frame that the buffer begins with, the step is the meaning of the frame's
instruction, and the frame's bytes leave the buffer. -/
def Obligations.RxPushRunsTheFrame : Prop :=
  ∀ (b : Byte) (s : State) (i : Instr), decodeFrame (s.rxbuf ++ [b]) = some i →
    ∃ u, exec i { s with rxbuf := s.rxbuf ++ [b] } = .next u ∧
      exec (.rxPush b) s = .next { u with rxbuf := [], reply := .accepted }

/-! ### The frame types -/

/-- R172, R175: a received frame of an outbound type is dropped: `CrcMismatch` where its CRC fails, else
`UnknownResponseType`; nothing but the event changes. -/
def Obligations.OutboundTypesAreDropped : Prop :=
  ∀ (p : Bytes) (c : U16) (s : State), ∀ i ∈ ([.read p c, .write p c, .upgradeData p c, .upgradeCrc p c] : List Instr),
    exec i s = .next { s with events := s.events ++
      [.discard (if frameCheck s.params.crcInit (encode i) = true then .unknownResponseType else .crcMismatch)
        (6 + p.length)] }

/-- R171: `CONNECT` and `MCU_RESET` are offered with their CRC result; consumed, nothing more happens; declined, the frame is
discarded, as `CrcMismatch` or as `UnknownResponseType`. Nothing but the event and the oracle's fields changes; the place of
the oracle's answers is the model's (log entry 5). -/
def Obligations.HandshakeFramesAreOffered : Prop :=
  ∀ (p : Bytes) (c : U16) (s : State), ∀ i ∈ ([.connect p c, .mcuReset p c] : List Instr),
    let ok := frameCheck s.params.crcInit (encode i)
    let offered : State := { s with
      verdicts := s.verdicts.tail
      offers := s.offers + 1
      events := s.events ++ [.hsOffer (encode i) ok] }
    (s.verdict (encode i) ok = true → exec i s = .next offered) ∧
    (s.verdict (encode i) ok = false → exec i s = .next { offered with events := offered.events ++
      [.discard (if ok = true then .unknownResponseType else .crcMismatch) (6 + p.length)] })

/-- R174: a CRC-valid report is delivered with its records if its payload is a multiple of 6 bytes and else discarded as
`Malformed`; a damaged one is discarded (R172). Nothing but the event changes. -/
def Obligations.ReportsAreDelivered : Prop :=
  ∀ (p : Bytes) (c : U16) (s : State),
    ∀ x ∈ ([(0x40#8, .report40 p c), (0x50#8, .report50 p c), (0x60#8, .report60 p c)] : List (Byte × Instr)),
    (frameCheck s.params.crcInit (encode x.2) = true → p.length % 6 = 0 →
      exec x.2 s = .next { s with events := s.events ++ [.report x.1 ((List.range (p.length / 6)).map fun i =>
        (be16 (slice p (6 * i) (6 * i + 2)), be32 (slice p (6 * i + 2) (6 * i + 6))))] }) ∧
    (frameCheck s.params.crcInit (encode x.2) = true → p.length % 6 ≠ 0 →
      exec x.2 s = .next { s with events := s.events ++ [.discard .malformed (6 + p.length)] }) ∧
    (frameCheck s.params.crcInit (encode x.2) = false →
      exec x.2 s = .next { s with events := s.events ++ [.discard .crcMismatch (6 + p.length)] })

/-- R196: the match predicate, by the kind of the entry. -/
def Obligations.MatchFollowsTheTable : Prop :=
  ∀ (fn : Byte) (p : Bytes) (c : U16) (e : Entry),
    (∀ a t, e.request = .read a t →
      (matchesFrame (frameBytes fn p c) e = true ↔ (fn = 0x11#8 ∧ 2 ≤ p.length ∧ be16 (slice p 0 2) = a))) ∧
    (∀ a t, e.request = .write a t → (matchesFrame (frameBytes fn p c) e = true ↔ fn = 0xF1#8)) ∧
    (∀ k, e.request = .upgradeData k →
      (matchesFrame (frameBytes fn p c) e = true ↔ (fn = 0xF1#8 ∧ 1 ≤ p.length ∧ byteAt p 0 = 0x30#8))) ∧
    (e.request = .upgradeCrc →
      (matchesFrame (frameBytes fn p c) e = true ↔ (fn = 0xF1#8 ∧ 1 ≤ p.length ∧ byteAt p 0 = 0x31#8)))

/-- R197: a CRC-valid acknowledgement completes the oldest entry it matches, which leaves the table, and no other; where it
matches none it is discarded as `Unmatched`; a damaged one is discarded and no entry leaves (R172). -/
def Obligations.AcknowledgementsCompleteTheOldestMatch : Prop :=
  ∀ (p : Bytes) (c : U16) (s : State), ∀ i ∈ ([.ackWithData p c, .ackNoData p c] : List Instr),
    (∀ older e newer, frameCheck s.params.crcInit (encode i) = true → s.pend = older ++ e :: newer →
      (∀ x ∈ older, matchesFrame (encode i) x = false) → matchesFrame (encode i) e = true →
      exec i s = .next { s with
        pend := older ++ newer
        events := s.events ++ [.completion e.id (parseResponse s.params.crcInit (encode i) (awaitingWrite e.request)
          (expectedAddress e.request) (declaredType e.request))] }) ∧
    (frameCheck s.params.crcInit (encode i) = true → (∀ x ∈ s.pend, matchesFrame (encode i) x = false) →
      exec i s = .next { s with events := s.events ++ [.discard .unmatched (6 + p.length)] }) ∧
    (frameCheck s.params.crcInit (encode i) = false →
      exec i s = .next { s with events := s.events ++ [.discard .crcMismatch (6 + p.length)] })

/-- R197, the results that can arise: a read gets its value or `BadLength`; the other kinds get the status `OK`, `DeviceError`
or `BadLength`. -/
def Obligations.CorrelatedResultsAreThese : Prop :=
  ∀ (init : U16) (fn : Byte) (p : Bytes) (c : U16) (e : Entry),
    frameCheck init (frameBytes fn p c) = true → matchesFrame (frameBytes fn p c) e = true →
    (∀ a t, e.request = .read a t →
      responseFor init (frameBytes fn p c) e =
        if p.length = 6 then .readSuccess a (unpack (slice p 2 6) t) else .error .badLength) ∧
    (awaitingWrite e.request = true →
      responseFor init (frameBytes fn p c) e =
        if p.length ≠ 2 then .error .badLength
        else if byteAt p 1 = 0x00#8 then .statusSuccess 0x00#8
        else .error (.deviceError (byteAt p 0) (byteAt p 1)))

/-- R206: reads of distinct addresses, answered in any order, are each completed with their own value exactly once, and the table
is empty after the last. -/
def Obligations.ConcurrentReadsGetTheirValues : Prop :=
  ∀ (s : State) (order : List Entry) (address : Entry → U16) (type : Entry → DType) (raw : Entry → U32),
    (∀ e ∈ s.pend, e.request = .read (address e) (type e)) → (s.pend.map address).Nodup → order.Perm s.pend →
    execAll (order.map fun e => dataAck s.params.crcInit (address e) (raw e)) s = .next { s with
      pend := []
      events := s.events ++ order.map fun e =>
        .completion e.id (.readSuccess (address e) (unpack (toBe32 (raw e)) (type e))) }

/-- R314: an `ACK_NO_DATA`, such as the refusal of a read, removes no read from the table. -/
def Obligations.RefusalsLeaveReadsPending : Prop :=
  ∀ (p : Bytes) (c : U16) (s t : State) (e : Entry) (a : U16) (ty : DType),
    e ∈ s.pend → e.request = .read a ty → exec (.ackNoData p c) s = .next t → e ∈ t.pend

/-! ### The correlator -/

/-- R190 to R194, R203: with room in the table and a timeout that fits, each `ISSUE_*` is accepted under an id that no live entry
has: it sends its frame, and nothing else changes. -/
def Obligations.IssueRegistersAndSends : Prop :=
  ∀ (s : State) (timeout : U32), s.params.nPending ≠ some s.pend.length → s.pend.length < 2 ^ s.params.idW →
    timeout.toNat < 2 ^ s.params.timeW →
    ∃ id, id ∉ liveIds s.pend ∧
      (∀ a t, exec (.issueRead a t timeout) s = .next (issued s id (.read a t) timeout
        (withCrc s.params.crcInit ([0x5A#8, 0x10#8, 0x00#8, 0x02#8] ++ toBe16 a)))) ∧
      (∀ a (v : U32) t, exec (.issueWrite a v t timeout) s = .next (issued s id (.write a t) timeout
        (withCrc s.params.crcInit ([0x5A#8, 0x20#8, 0x00#8, 0x06#8] ++ toBe16 a ++
          toBe32 (BitVec.ofNat 32 (v.toNat % 2 ^ typeBits t)))))) ∧
      (∀ k (chunk : Bytes), chunk.length ≤ 2048 →
        exec (.issueUpgradeData k chunk timeout) s = .next (issued s id (.upgradeData k) timeout
          (packetFrame s.params k chunk))) ∧
      (∀ crc n, exec (.issueUpgradeCrc crc n timeout) s = .next (issued s id .upgradeCrc timeout
        (withCrc s.params.crcInit ([0x5A#8, 0x31#8, 0x00#8, 0x04#8] ++ toBe16 crc ++ toBe16 n))))

/-- R203: the id allocated is the first of `next_id`, `next_id + 1`, … modulo `2^ID_W` that no live entry has, there is one
while fewer than `2^ID_W` entries live, and an accepted `ISSUE_*` leaves `next_id` behind it. -/
def Obligations.AllocIdTakesTheFirstFree : Prop :=
  ∀ s : State, s.nextId < 2 ^ s.params.idW → s.pend.length < 2 ^ s.params.idW →
    ∃ id j, allocId s = some id ∧ id = (s.nextId + j) % 2 ^ s.params.idW ∧ id ∉ liveIds s.pend ∧
      (∀ i, i < j → (s.nextId + i) % 2 ^ s.params.idW ∈ liveIds s.pend) ∧
      ∀ i t, isIssue i = true → exec i s = .next t → t.reply = .accepted → t.nextId = (id + 1) % 2 ^ s.params.idW

/-- R204: on a full table an `ISSUE_*` whose operands fit is held: nothing is emitted and nothing changes, but that `reply` says
so (the model's, log entry 7). -/
def Obligations.FullTableHolds : Prop :=
  ∀ (s : State) (timeout : U32), s.params.nPending = some s.pend.length → timeout.toNat < 2 ^ s.params.timeW →
    (∀ a t, exec (.issueRead a t timeout) s = .next { s with reply := .held }) ∧
    (∀ a v t, exec (.issueWrite a v t timeout) s = .next { s with reply := .held }) ∧
    (∀ k (chunk : Bytes), chunk.length ≤ 2048 → exec (.issueUpgradeData k chunk timeout) s = .next { s with reply := .held }) ∧
    (∀ crc n, exec (.issueUpgradeCrc crc n timeout) s = .next { s with reply := .held })

/-- R130, R193, R200 with D30: a chunk over 2048 bytes and a timeout of `2^TIME_W` or more are refused with nothing changed. That
a timeout is refused, and `reply`, are the model's choices (log entries 10, 7). -/
def Obligations.OversizedOperandsAreRefused : Prop :=
  ∀ s : State,
    (∀ k (chunk : Bytes) timeout, 2048 < chunk.length →
      exec (.issueUpgradeData k chunk timeout) s = .next { s with reply := .refused }) ∧
    (∀ timeout : U32, 2 ^ s.params.timeW ≤ timeout.toNat →
      (∀ a t, exec (.issueRead a t timeout) s = .next { s with reply := .refused }) ∧
      (∀ a v t, exec (.issueWrite a v t timeout) s = .next { s with reply := .refused }) ∧
      (∀ k chunk, exec (.issueUpgradeData k chunk timeout) s = .next { s with reply := .refused }) ∧
      (∀ crc n, exec (.issueUpgradeCrc crc n timeout) s = .next { s with reply := .refused }))

/-- R195: `SEND` transmits the encoded frame, registers nothing and changes nothing else; a payload of more than 65535 bytes is
refused as by `ENCODE` (that `reply` says so is the model's choice, log entry 7). -/
def Obligations.SendOnlyTransmits : Prop :=
  ∀ (fn : Byte) (payload : Bytes) (s : State),
    (payload.length ≤ 65535 → exec (.send fn payload) s = .next { s with
      events := s.events ++ [.tx (withCrc s.params.crcInit
        ([0x5A#8, fn] ++ toBe16 (BitVec.ofNat 16 payload.length) ++ payload))]
      reply := .accepted }) ∧
    (65535 < payload.length → exec (.send fn payload) s = .next { s with reply := .refused })

/-- R200: `TICK` advances `now` and removes every entry whose time has run out, completing each with `Timeout` in table order;
nothing else changes. -/
def Obligations.TickExpiresEntries : Prop :=
  ∀ s : State,
    let now' := (s.now + 1) % 2 ^ s.params.timeW
    let out := fun e : Entry =>
      decide ((e.timeout : Int) ≤ ((now' : Int) - (e.creationTime : Int)) % ((2 ^ s.params.timeW : Nat) : Int))
    exec .tick s = .next { s with
      now := now'
      pend := s.pend.filter fun e => ! out e
      events := s.events ++ (s.pend.filter out).map fun e => Event.completion e.id (.error .timeout)
      reply := .accepted }

/-- R200's corner cases: an entry issued at the present `now` with timeout `T` is there after `k` ticks and no acknowledgement
exactly if `k` is 0 or below `T`, the wrap of `now` notwithstanding. -/
def Obligations.EntryLivesForItsTimeout : Prop :=
  ∀ (s t : State) (e : Entry) (k : Nat), s.now < 2 ^ s.params.timeW → e ∈ s.pend → e.creationTime = s.now →
    e.timeout < 2 ^ s.params.timeW → execAll (List.replicate k .tick) s = .next t →
    (e ∈ t.pend ↔ (k = 0 ∨ k < e.timeout))

/-- R190, R201: exactly one completion for every issue. For each id, every instruction but `RESET` keeps the number of `IssueAck`s
equal to that of the completions and the live entries, counted from any state. -/
def Obligations.OneCompletionPerIssue : Prop :=
  ∀ (i : Instr) (s t : State) (id : Nat), i ≠ .reset → exec i s = .next t →
    acksOf id t.events + completionsOf id s.events + liveCount id s.pend =
      acksOf id s.events + completionsOf id t.events + liveCount id t.pend

/-- R300: `RESET` empties the buffer and the table, zeroes both counters, and emits nothing; parameters and ports stay. -/
def Obligations.ResetClearsTheFourElements : Prop :=
  ∀ s : State, exec .reset s =
    .next { s with rxbuf := [], pend := [], nextId := 0, now := 0, reply := .accepted }

/-! ### The whole machine -/

/-- R36: the four elements before the first step and after `Reset`, and the connection state, outside the block. -/
def Obligations.ResetStateValues : Prop :=
  (State.reset.rxbuf = [] ∧ State.reset.pend = [] ∧ State.reset.nextId = 0 ∧ State.reset.now = 0) ∧
  (∀ s t : State, exec .reset s = .next t → t.rxbuf = [] ∧ t.pend = [] ∧ t.nextId = 0 ∧ t.now = 0) ∧
  ∀ autoReply interval maxRetries packetTimeout confirmTimeout directory,
    (Agents.start autoReply interval maxRetries packetTimeout confirmTimeout directory).handshake.conn = .disconnected

/-- R35 at the state after reset. -/
def Obligations.InvariantsHoldAtReset : Prop := Inv State.reset

/-- R35: every step keeps the invariants. -/
def Obligations.StepKeepsInvariants : Prop :=
  ∀ s t : State, Inv s → step s = .next t → Inv t

/-- R16, R30: a step takes the oldest transaction at the ports and runs the instruction it decodes to; a held one is presented
again behind the others. The ports' queue is the model's (log entries 3, 11). -/
def Obligations.StepRunsTheDecodedInstruction : Prop :=
  ∀ (s u : State) (t : Bytes) (rest : List Bytes) (i : Instr), s.inbox = t :: rest → decodeCommand t = some i →
    i.wellFormed = true → exec i { s with inbox := rest } = .next u →
    step s = .next (if u.reply = .held then { u with inbox := u.inbox ++ [t] } else u)

/-- R269: the block never halts. Every instruction in every state has a next state, and so has every step; what is held is an
`ISSUE_*`, with nothing changed, on a full table (R204) or, by the model's choice, with every id live (log entry 8). -/
def Obligations.TheBlockNeverHalts : Prop :=
  (∀ (i : Instr) (s : State), ∃ t, exec i s = .next t ∧ (s.reply ≠ .held → t.reply = .held →
    isIssue i = true ∧ t = { s with reply := .held } ∧
    (s.params.nPending = some s.pend.length ∨
      (s.nextId < 2 ^ s.params.idW → ∀ id, id < 2 ^ s.params.idW → id ∈ liveIds s.pend)))) ∧
  (∀ s : State, ∃ t, step s = .next t)

/-- With every id live, room in the table and operands that fit, an `ISSUE_*` is held with nothing changed: R203's loop ends only
when an entry leaves. That it waits like one on a full table is the model's choice (log entry 8). -/
def Obligations.IssueWithoutFreeIdHolds : Prop :=
  ∀ (s : State) (timeout : U32), s.params.nPending ≠ some s.pend.length → timeout.toNat < 2 ^ s.params.timeW →
    s.nextId < 2 ^ s.params.idW → (∀ id, id < 2 ^ s.params.idW → id ∈ liveIds s.pend) →
    (∀ a t, exec (.issueRead a t timeout) s = .next { s with reply := .held }) ∧
    (∀ a v t, exec (.issueWrite a v t timeout) s = .next { s with reply := .held }) ∧
    (∀ k (chunk : Bytes), chunk.length ≤ 2048 → exec (.issueUpgradeData k chunk timeout) s = .next { s with reply := .held }) ∧
    (∀ crc n, exec (.issueUpgradeCrc crc n timeout) s = .next { s with reply := .held })

/-- R23, R33: no step changes a parameter, and events are only added. -/
def Obligations.StepsFixParametersAndAppendEvents : Prop :=
  ∀ s t : State, step s = .next t → t.params = s.params ∧ s.events <+: t.events

/-- R24 to R27, who writes each element: the buffer by `RX_PUSH`, the id counter by `ISSUE_*`, the tick counter by `TICK`, the table
by `ISSUE_*`, a match and `TICK`; and all by `RESET` (R300). -/
def Obligations.ElementsHaveTheirWriters : Prop :=
  ∀ (i : Instr) (s t : State), exec i s = .next t →
    (t.rxbuf ≠ s.rxbuf → i = .reset ∨ ∃ b, i = .rxPush b) ∧
    (t.nextId ≠ s.nextId → i = .reset ∨ isIssue i = true) ∧
    (t.now ≠ s.now → i = .reset ∨ i = .tick) ∧
    (t.pend ≠ s.pend → mayChangePend i = true)

/-- R32: the oracle's answer changes no state element. Two states that agree on the four elements and the parameters, whatever
answers wait in them, agree on them after any instruction. -/
def Obligations.VerdictsChangeNoElement : Prop :=
  ∀ (i : Instr) (s₁ s₂ t₁ t₂ : State), SameElements s₁ s₂ → exec i s₁ = .next t₁ → exec i s₂ = .next t₂ →
    SameElements t₁ t₂

/-! ### The agents around the block -/

/-- R231: an image that is no multiple of 2048 bytes fails at once with `SizeError` and nothing is sent. So does, under the model's
name, an aligned image of more than 65535 packets (R59, R131; log entry 18); and a request while an upgrade is under way
changes nothing, the model's choice by which one request of the orchestrator's own is live at a time (R232; log entry 18). -/
def Obligations.UnalignedImageFailsAtOnce : Prop :=
  ∀ (y : System) (image : Bytes),
    (y.agents.upgrade.underWay = false → image.length % 2048 ≠ 0 →
      (y.upgrade image).agents.upgrade.phase = .failed .sizeError ∧ (y.upgrade image).block = y.block) ∧
    (y.agents.upgrade.underWay = false → image.length % 2048 = 0 → 2048 * 65535 < image.length →
      (y.upgrade image).agents.upgrade.phase = .failed .tooManyPackets ∧ (y.upgrade image).block = y.block) ∧
    (y.agents.upgrade.underWay = true → y.upgrade image = y)

/-- R224, R225: with the policy on, a CRC-valid `MCU_RESET` is answered by the identical frame and a damaged one by the status reply
`F0 F1`; with the policy off by nothing. The function code of the reply is the spec's reading (D33). -/
def Obligations.DeviceResetIsAnswered : Prop :=
  ∀ (h : Handshake) (f : Bytes) (s : State), Candidate f → byteAt f 1 = 0xF0#8 →
    (h.autoReply = true → frameCheck s.params.crcInit f = true → ∃ i, h.onOffer f true = (h, [i]) ∧
      exec i s = .next { s with events := s.events ++ [.tx f], reply := .accepted }) ∧
    (h.autoReply = true → ∃ i, h.onOffer f false = (h, [i]) ∧
      exec i s = .next { s with
        events := s.events ++ [.tx (withCrc s.params.crcInit [0x5A#8, 0xF1#8, 0x00#8, 0x02#8, 0xF0#8, 0xF1#8])]
        reply := .accepted }) ∧
    (h.autoReply = false → ∀ ok, h.onOffer f ok = (h, []))

/-- R232, R233, R238: with every acknowledgement `OK`, an aligned image of `n` packets, as many as the u16 fields count (R59), is sent
packet by packet, then confirmed with the value that its `CRC16` command returned (R194, R220), and the upgrade succeeds. An
empty image is confirmed at once. -/
def Obligations.AcknowledgedUpgradeSucceeds : Prop :=
  ∀ (init : U16) (u : Upgrade) (image : Bytes) (n : Nat), u.underWay = false → 0 < u.maxRetries → image.length = 2048 * n →
    n ≤ 65535 →
    let r := allOk (n + 1) (startedWith u image (crc16 init image))
    r.1.phase = .succeeded ∧ r.1.progress = (if n = 0 then none else some (n, n)) ∧
    r.2 = [.crc16 image] ++ ((List.range n).map fun i =>
        Instr.issueUpgradeData (BitVec.ofNat 16 i) ((image.drop (2048 * i)).take 2048) u.packetTimeout) ++
      [.issueUpgradeCrc (crc16 init image) (BitVec.ofNat 16 n) u.confirmTimeout]

/-- R202, R220, R237: a calling thread that waits for an id is completed by the first `Completion` with that id, with its result, and
is otherwise as it was; no other event of the step concerns it. (A `RESET` ends its run, R300.) -/
def Obligations.CallerGetsItsOwnCompletion : Prop :=
  ∀ (y z : System) (k id : Nat) (c : Caller), y.step = .next z → nextInstr y.block ≠ some .reset →
    y.issuers.headD .other ≠ .caller k → y.agents.callers[k]? = some c → c.phase = .waiting id →
    let told := z.block.events.drop y.block.events.length
    (completionsOf id told = 0 → z.agents.callers[k]? = some c) ∧
    (∀ before r after, told = before ++ .completion id r :: after → completionsOf id before = 0 →
      z.agents.callers[k]? = some { c with phase := .completed r })

/-- R36, R300: a `RESET` ends the run for the agents too: the connection state is `Disconnected`, and no requester waits for an id of
the run that ended. That the handshake loop is cancelled is R226's disconnect, read into the reset (log entry 17). -/
def Obligations.ResetEndsTheRun : Prop :=
  ∀ y : System, nextInstr y.block = some .reset → ∃ z, y.step = .next z ∧
    z.block.rxbuf = [] ∧ z.block.pend = [] ∧ z.block.nextId = 0 ∧ z.block.now = 0 ∧ z.block.events = y.block.events ∧
    z.agents.handshake.conn = .disconnected ∧ z.agents.handshake.sending = false ∧
    (∀ c ∈ z.agents.callers, ∀ id, c.phase ≠ .waiting id) ∧ z.agents.upgrade.waiting = none

/-- R202: each transaction keeps its issuer while it waits, so that its `IssueAck` goes to who placed it. A step takes the oldest
away, puts it behind the others where it is held, and puts the agents' answers before all. The queue and the places in it
are the model's (log entries 3, 11, 19). -/
def Obligations.TransactionsKeepTheirIssuers : Prop :=
  ∀ y z : System, y.issuers.length = y.block.inbox.length → y.block.inbox ≠ [] → y.step = .next z →
    z.issuers.length = z.block.inbox.length ∧
    ∃ answers : List Placed, z.issuers.zip z.block.inbox = (answers.map fun p => (p.1, encode p.2)) ++
      (let waiting := y.issuers.zip y.block.inbox
       if z.block.reply = .held then waiting.tail ++ waiting.take 1 else waiting.tail)
end

