-- ==== Sys2Proof/Laws/Bytes.lean ====
section
/-! SUPPORT. The small lemmas of the byte order, the frame layout and the codes of the port. -/

namespace Sys2Proof

/-! ### Byte strings -/

@[simp] theorem byteAt_zero (b : Byte) (s : Bytes) : byteAt (b :: s) 0 = b := rfl
@[simp] theorem byteAt_succ (b : Byte) (s : Bytes) (i : Nat) : byteAt (b :: s) (i + 1) = byteAt s i := rfl
@[simp] theorem byteAt_one (a b : Byte) (s : Bytes) : byteAt (a :: b :: s) 1 = b := rfl
@[simp] theorem byteAt_nil (i : Nat) : byteAt [] i = 0#8 := rfl

theorem byteAt_append_left {s t : Bytes} {i : Nat} (h : i < s.length) : byteAt (s ++ t) i = byteAt s i := by
  simp [byteAt, List.getD_eq_getElem?_getD, List.getElem?_append_left h]

theorem byteAt_drop (s : Bytes) (n i : Nat) : byteAt (s.drop n) i = byteAt s (n + i) := by
  simp [byteAt, List.getD_eq_getElem?_getD]

theorem byteAt_take {s : Bytes} {n i : Nat} (h : i < n) : byteAt (s.take n) i = byteAt s i := by
  simp [byteAt, List.getD_eq_getElem?_getD, h]

theorem slice_length (s : Bytes) (i j : Nat) : (slice s i j).length = min (j - i) (s.length - i) := by
  simp [slice]

theorem byteAt_slice {s : Bytes} {i j k : Nat} (h : k < j - i) : byteAt (slice s i j) k = byteAt s (i + k) := by
  rw [slice, byteAt_take h, byteAt_drop]

/-! ### Byte order -/

@[simp] theorem toBe16_length (v : U16) : (toBe16 v).length = 2 := rfl
@[simp] theorem toBe32_length (v : U32) : (toBe32 v).length = 4 := rfl

theorem append_toNat {n : Nat} (a : BitVec n) (b : Byte) : (a ++ b).toNat = a.toNat * 256 + b.toNat := by
  rw [BitVec.toNat_append, ← Nat.shiftLeft_add_eq_or_of_lt b.isLt, Nat.shiftLeft_eq]

theorem append4_toNat (a b c d : Byte) :
    (a ++ b ++ c ++ d).toNat = ((a.toNat * 256 + b.toNat) * 256 + c.toNat) * 256 + d.toNat := by
  rw [append_toNat, append_toNat, append_toNat]

/-- R12: the more significant byte first. -/
theorem be16_toNat (s : Bytes) : (be16 s).toNat = (byteAt s 0).toNat * 256 + (byteAt s 1).toNat :=
  append_toNat (byteAt s 0) (byteAt s 1)

/-- R12 for four bytes. -/
theorem be32_toNat (s : Bytes) : (be32 s).toNat =
    (((byteAt s 0).toNat * 256 + (byteAt s 1).toNat) * 256 + (byteAt s 2).toNat) * 256 + (byteAt s 3).toNat :=
  append4_toNat (byteAt s 0) (byteAt s 1) (byteAt s 2) (byteAt s 3)

/-- `be16` reads back what `BE16` wrote, whatever follows. -/
theorem be16_pair (v : U16) (s : Bytes) : be16 (v.extractLsb' 8 8 :: v.extractLsb' 0 8 :: s) = v := by
  apply BitVec.eq_of_toNat_eq
  rw [be16_toNat]
  simp [byteAt, Nat.shiftRight_eq_div_pow]
  omega

/-- `be32` reads back what `BE32` wrote, whatever follows. -/
theorem be32_quad (v : U32) (s : Bytes) :
    be32 (v.extractLsb' 24 8 :: v.extractLsb' 16 8 :: v.extractLsb' 8 8 :: v.extractLsb' 0 8 :: s) = v := by
  apply BitVec.eq_of_toNat_eq
  rw [be32_toNat]
  simp [byteAt, Nat.shiftRight_eq_div_pow]
  omega

@[simp] theorem be16_toBe16 (v : U16) : be16 (toBe16 v) = v := be16_pair v []
@[simp] theorem be32_toBe32 (v : U32) : be32 (toBe32 v) = v := be32_quad v []
@[simp] theorem be16_toBe16_append (v : U16) (s : Bytes) : be16 (toBe16 v ++ s) = v := be16_pair v s
@[simp] theorem be32_toBe32_append (v : U32) (s : Bytes) : be32 (toBe32 v ++ s) = v := be32_quad v s

/-- `BE16` writes back what `be16` read. -/
@[simp] theorem toBe16_be16 (a b : Byte) (s : Bytes) : toBe16 (be16 (a :: b :: s)) = [a, b] := by
  have h := be16_toNat (a :: b :: s)
  simp only [toBe16, List.cons.injEq, and_true]
  constructor <;> (apply BitVec.eq_of_toNat_eq; simp [Nat.shiftRight_eq_div_pow, h, byteAt]; try omega)

/-- `BE32` writes back what `be32` read. -/
@[simp] theorem toBe32_be32 (a b c d : Byte) (s : Bytes) :
    toBe32 (be32 (a :: b :: c :: d :: s)) = [a, b, c, d] := by
  have h := be32_toNat (a :: b :: c :: d :: s)
  simp only [toBe32, List.cons.injEq, and_true]
  refine ⟨?_, ?_, ?_, ?_⟩ <;>
    (apply BitVec.eq_of_toNat_eq; simp [Nat.shiftRight_eq_div_pow, h, byteAt]; try omega)

/-! ### Codes of the port -/

@[simp] theorem DType.ofCode_code (t : DType) : DType.ofCode t.code = some t := by cases t <;> rfl

theorem DType.code_of_ofCode {c : Byte} {t : DType} (h : DType.ofCode c = some t) : t.code = c := by
  unfold DType.ofCode at h
  repeat' split at h
  all_goals first | cases h; simp_all [DType.code] | cases h

/-! ### The layout of a frame -/

@[simp] theorem frameBytes_length (fn : Byte) (p : Bytes) (c : U16) : (frameBytes fn p c).length = 6 + p.length := by
  simp [frameBytes]; omega

@[simp] theorem byteAt_frameBytes_zero (fn : Byte) (p : Bytes) (c : U16) : byteAt (frameBytes fn p c) 0 = Config.head := rfl
@[simp] theorem byteAt_frameBytes_one (fn : Byte) (p : Bytes) (c : U16) : byteAt (frameBytes fn p c) 1 = fn := rfl

theorem lengthField_frameBytes (fn : Byte) (p : Bytes) (c : U16) :
    lengthField (frameBytes fn p c) = p.length % 65536 := by
  have h : slice (frameBytes fn p c) 2 4 = toBe16 (BitVec.ofNat 16 p.length) := rfl
  simp [lengthField, h]

@[simp] theorem payloadOf_frameBytes (fn : Byte) (p : Bytes) (c : U16) : payloadOf (frameBytes fn p c) = p := by
  have h : (frameBytes fn p c).drop 4 = p ++ toBe16 c := by simp [frameBytes, toBe16]
  have k : (frameBytes fn p c).length - 2 - 4 = p.length := by simp; omega
  rw [payloadOf, slice, k, h, List.take_left']
  rfl

@[simp] theorem crcField_frameBytes (fn : Byte) (p : Bytes) (c : U16) : crcField (frameBytes fn p c) = c := by
  have h : (frameBytes fn p c).drop (p.length + 4) = toBe16 c := by
    have e : frameBytes fn p c = (([Config.head, fn] ++ toBe16 (BitVec.ofNat 16 p.length)) ++ p) ++ toBe16 c := by
      simp [frameBytes]
    rw [e]
    exact List.drop_left' (by simp; omega)
  have k : (frameBytes fn p c).length - 2 = p.length + 4 := by simp; omega
  rw [crcField, slice, k, h, List.take_of_length_le (by simp; omega), be16_toBe16]

/-- R18 as a proposition. -/
theorem wellFramed_iff (f : Bytes) : wellFramed f = true ↔
    6 ≤ f.length ∧ byteAt f 0 = Config.head ∧ f.length = 6 + (be16 (slice f 2 4)).toNat := by
  unfold wellFramed
  rw [Bool.and_eq_true, Bool.and_eq_true, decide_eq_true_iff, beq_iff_eq, beq_iff_eq, and_assoc]
  rfl

/-- The bytes of a frame whose payload the length field can count are well-framed. -/
theorem wellFramed_frameBytes (fn : Byte) {p : Bytes} (c : U16) (h : p.length ≤ 65535) :
    wellFramed (frameBytes fn p c) = true := by
  have hl := lengthField_frameBytes fn p c
  simp [wellFramed, frameTotal, Config.minFrame, hl]
  omega

/-- R80, R85, R86: a well-framed byte string is the frame of its function byte, its payload and its crc16 field. -/
theorem frameBytes_of_wellFramed {f : Bytes} (h : wellFramed f = true) :
    frameBytes (byteAt f 1) (payloadOf f) (crcField f) = f := by
  obtain ⟨h6, h0, hl⟩ := (wellFramed_iff f).1 h
  clear h
  match f, h6 with
  | a :: b :: c :: d :: r, h6 =>
    have hs : slice (a :: b :: c :: d :: r) 2 4 = [c, d] := by simp [slice]
    have hr : 2 ≤ r.length := by simp at h6; omega
    obtain ⟨p, x, y, rfl⟩ : ∃ p x y, r = p ++ [x, y] := by
      refine ⟨r.take (r.length - 2), byteAt r (r.length - 2), byteAt r (r.length - 1), ?_⟩
      conv_lhs => rw [← List.take_append_drop (r.length - 2) r]
      congr 1
      apply List.ext_getElem
      · simp; omega
      · intro i h1 h2
        simp at h1 h2
        have : i = 0 ∨ i = 1 := by omega
        rcases this with rfl | rfl
        · simp [byteAt, List.getD_eq_getElem?_getD, List.getElem?_eq_getElem (show r.length - 2 < r.length by omega)]
        · have e : r.length - 2 + 1 = r.length - 1 := by omega
          simp [byteAt, List.getD_eq_getElem?_getD, List.getElem?_eq_getElem (show r.length - 1 < r.length by omega), e]
    have hb : (be16 [c, d]).toNat = p.length := by rw [hs] at hl; simp at hl; omega
    have hn : BitVec.ofNat 16 p.length = be16 [c, d] := by rw [← hb]; simp
    have hp : payloadOf (a :: b :: c :: d :: (p ++ [x, y])) = p := by
      simp [payloadOf, slice]
    have hc : crcField (a :: b :: c :: d :: (p ++ [x, y])) = be16 [x, y] := by
      simp [crcField, slice]
    rw [hp, hc]
    simp only [byteAt_zero] at h0
    simp [frameBytes, hn, h0]

end Sys2Proof
end

