-- ==== Sys2Proof/Laws/Operands.lean ====
section
/-! SUPPORT. What the operand limits say, as propositions over numbers, and the lengths of the payloads. -/

namespace Sys2Proof

theorem payloadFits_iff (p : Bytes) : payloadFits p = true ↔ p.length ≤ 65535 := decide_eq_true_iff

theorem chunkFits_iff (c : Bytes) : chunkFits c = true ↔ c.length ≤ 2048 := decide_eq_true_iff

theorem imageFits_iff (image : Bytes) : imageFits image = true ↔ image.length ≤ 2048 * 65535 := decide_eq_true_iff

end Sys2Proof

namespace Sys2Proof.Machine

theorem fitsLength_iff (p : Bytes) : fitsLength p = true ↔ p.length ≤ 65535 := decide_eq_true_iff

theorem fitsChunk_iff (c : Bytes) : fitsChunk c = true ↔ c.length ≤ 2048 := decide_eq_true_iff

theorem numPackets_eq (image : Bytes) : numPackets image = (image.length + 2047) / 2048 := rfl

/-- R131, D22: as many packets as a u16 can count. -/
theorem fitsImage_iff (image : Bytes) : fitsImage image = true ↔ image.length ≤ 2048 * 65535 := by
  have h : fitsImage image = true ↔ numPackets image ≤ 65535 := decide_eq_true_iff
  rw [h, numPackets_eq]
  omega

theorem fitsTime_iff (p : Params) (t : Nat) : fitsTime p t = true ↔ t < 2 ^ p.timeW := decide_eq_true_iff

theorem tableFull_iff (p : Params) (pend : List Entry) : tableFull p pend = true ↔ p.nPending = some pend.length :=
  beq_iff_eq

@[simp] theorem pack_length (v : Int) (t : DType) : (pack v t).length = 4 := by unfold pack; split <;> rfl

@[simp] theorem readPayload_length (a : U16) : (readPayload a).length = 2 := rfl
@[simp] theorem statusPayload_length (fc sc : Byte) : (statusPayload fc sc).length = 2 := rfl
@[simp] theorem upgradeCrcPayload_length (c n : U16) : (upgradeCrcPayload c n).length = 4 := rfl

@[simp] theorem writePayload_length (a : U16) (v : Int) (t : DType) : (writePayload a v t).length = 6 := by
  simp [writePayload]

theorem padChunk_length {c : Bytes} (h : c.length ≤ 2048) : (padChunk c).length = 2048 := by
  simp [padChunk, Config.packetSize]; omega

theorem upgradeDataPayload_length (tag k : U16) {c : Bytes} (h : c.length ≤ 2048) :
    (upgradeDataPayload tag k c).length = 2052 := by
  simp [upgradeDataPayload, padChunk_length h]

end Sys2Proof.Machine
end

