-- ==== Sys2Proof/Laws/Decode.lean ====
section
/-! SUPPORT. The selectors of R105 one by one, and the decoder on the bytes of a frame. -/

namespace Sys2Proof

/-! ### Selectors -/

theorem decodeOp_crc16 (args : Bytes) : decodeOp 0x01#8 args = some (.crc16 args) := rfl
theorem decodeOp_pack (args : Bytes) : decodeOp 0x02#8 args = decodePack args := rfl
theorem decodeOp_unpack (args : Bytes) : decodeOp 0x03#8 args = decodeUnpack args := rfl
theorem decodeOp_encode (args : Bytes) : decodeOp 0x04#8 args = decodeEncode args := rfl
theorem decodeOp_frameCheck (args : Bytes) : decodeOp 0x05#8 args = some (.frameCheck args) := rfl
theorem decodeOp_parseResponse (args : Bytes) : decodeOp 0x06#8 args = decodeParseResponse args := rfl
theorem decodeOp_parseReport (args : Bytes) : decodeOp 0x07#8 args = some (.parseReport args) := rfl
theorem decodeOp_buildRead (args : Bytes) : decodeOp 0x10#8 args = decodeBuildRead args := rfl
theorem decodeOp_buildWrite (args : Bytes) : decodeOp 0x11#8 args = decodeBuildWrite args := rfl
theorem decodeOp_buildHandshake (args : Bytes) : decodeOp 0x12#8 args = decodeBuildHandshake args := rfl
theorem decodeOp_buildStatusReply (args : Bytes) : decodeOp 0x13#8 args = decodeBuildStatusReply args := rfl
theorem decodeOp_buildUpgradePacket (args : Bytes) : decodeOp 0x14#8 args = decodeBuildUpgradePacket args := rfl
theorem decodeOp_buildUpgradePackets (args : Bytes) : decodeOp 0x15#8 args = some (.buildUpgradePackets args) := rfl
theorem decodeOp_buildUpgradeCrc (args : Bytes) : decodeOp 0x16#8 args = decodeBuildUpgradeCrc args := rfl
theorem decodeOp_issueRead (args : Bytes) : decodeOp 0x20#8 args = decodeIssueRead args := rfl
theorem decodeOp_issueWrite (args : Bytes) : decodeOp 0x21#8 args = decodeIssueWrite args := rfl
theorem decodeOp_issueUpgradeData (args : Bytes) : decodeOp 0x22#8 args = decodeIssueUpgradeData args := rfl
theorem decodeOp_issueUpgradeCrc (args : Bytes) : decodeOp 0x23#8 args = decodeIssueUpgradeCrc args := rfl
theorem decodeOp_send (args : Bytes) : decodeOp 0x24#8 args = decodeSend args := rfl
theorem decodeOp_rxPush (args : Bytes) : decodeOp 0x30#8 args = decodeRxPush args := rfl
theorem decodeOp_tick (args : Bytes) : decodeOp 0x31#8 args = decodeTick args := rfl
theorem decodeOp_reset (args : Bytes) : decodeOp 0x3F#8 args = decodeReset args := rfl

/-- A chain of tests that answers, answers at one of them. -/
theorem ite_answers {α : Type} {c : Prop} [Decidable c] {a b : Option α} {x : α}
    (h : (if c then a else b) = some x) : (c ∧ a = some x) ∨ b = some x := by
  split at h
  · exact .inl ⟨‹_›, h⟩
  · exact .inr h

/-- What `decodeOp` answers, it read under one of the selectors of R105. -/
theorem decodeOp_cases {op : Byte} {args : Bytes} {i : Instr} (h : decodeOp op args = some i) :
    (op = 0x01#8 ∧ some (.crc16 args) = some i) ∨
    (op = 0x02#8 ∧ decodePack args = some i) ∨
    (op = 0x03#8 ∧ decodeUnpack args = some i) ∨
    (op = 0x04#8 ∧ decodeEncode args = some i) ∨
    (op = 0x05#8 ∧ some (.frameCheck args) = some i) ∨
    (op = 0x06#8 ∧ decodeParseResponse args = some i) ∨
    (op = 0x07#8 ∧ some (.parseReport args) = some i) ∨
    (op = 0x10#8 ∧ decodeBuildRead args = some i) ∨
    (op = 0x11#8 ∧ decodeBuildWrite args = some i) ∨
    (op = 0x12#8 ∧ decodeBuildHandshake args = some i) ∨
    (op = 0x13#8 ∧ decodeBuildStatusReply args = some i) ∨
    (op = 0x14#8 ∧ decodeBuildUpgradePacket args = some i) ∨
    (op = 0x15#8 ∧ some (.buildUpgradePackets args) = some i) ∨
    (op = 0x16#8 ∧ decodeBuildUpgradeCrc args = some i) ∨
    (op = 0x20#8 ∧ decodeIssueRead args = some i) ∨
    (op = 0x21#8 ∧ decodeIssueWrite args = some i) ∨
    (op = 0x22#8 ∧ decodeIssueUpgradeData args = some i) ∨
    (op = 0x23#8 ∧ decodeIssueUpgradeCrc args = some i) ∨
    (op = 0x24#8 ∧ decodeSend args = some i) ∨
    (op = 0x30#8 ∧ decodeRxPush args = some i) ∨
    (op = 0x31#8 ∧ decodeTick args = some i) ∨
    (op = 0x3F#8 ∧ decodeReset args = some i) := by
  unfold decodeOp at h
  obtain ⟨hc, ha⟩ | h := ite_answers h
  · exact .inl ⟨hc, ha⟩
  obtain ⟨hc, ha⟩ | h := ite_answers h
  · exact .inr (.inl ⟨hc, ha⟩)
  obtain ⟨hc, ha⟩ | h := ite_answers h
  · exact .inr (.inr (.inl ⟨hc, ha⟩))
  obtain ⟨hc, ha⟩ | h := ite_answers h
  · exact .inr (.inr (.inr (.inl ⟨hc, ha⟩)))
  obtain ⟨hc, ha⟩ | h := ite_answers h
  · exact .inr (.inr (.inr (.inr (.inl ⟨hc, ha⟩))))
  obtain ⟨hc, ha⟩ | h := ite_answers h
  · exact .inr (.inr (.inr (.inr (.inr (.inl ⟨hc, ha⟩)))))
  obtain ⟨hc, ha⟩ | h := ite_answers h
  · exact .inr (.inr (.inr (.inr (.inr (.inr (.inl ⟨hc, ha⟩))))))
  obtain ⟨hc, ha⟩ | h := ite_answers h
  · exact .inr (.inr (.inr (.inr (.inr (.inr (.inr (.inl ⟨hc, ha⟩)))))))
  obtain ⟨hc, ha⟩ | h := ite_answers h
  · exact .inr (.inr (.inr (.inr (.inr (.inr (.inr (.inr (.inl ⟨hc, ha⟩))))))))
  obtain ⟨hc, ha⟩ | h := ite_answers h
  · exact .inr (.inr (.inr (.inr (.inr (.inr (.inr (.inr (.inr (.inl ⟨hc, ha⟩)))))))))
  obtain ⟨hc, ha⟩ | h := ite_answers h
  · exact .inr (.inr (.inr (.inr (.inr (.inr (.inr (.inr (.inr (.inr (.inl ⟨hc, ha⟩))))))))))
  obtain ⟨hc, ha⟩ | h := ite_answers h
  · exact .inr (.inr (.inr (.inr (.inr (.inr (.inr (.inr (.inr (.inr (.inr (.inl ⟨hc, ha⟩)))))))))))
  obtain ⟨hc, ha⟩ | h := ite_answers h
  · exact .inr (.inr (.inr (.inr (.inr (.inr (.inr (.inr (.inr (.inr (.inr (.inr (.inl ⟨hc, ha⟩))))))))))))
  obtain ⟨hc, ha⟩ | h := ite_answers h
  · exact .inr (.inr (.inr (.inr (.inr (.inr (.inr (.inr (.inr (.inr (.inr (.inr (.inr (.inl ⟨hc, ha⟩)))))))))))))
  obtain ⟨hc, ha⟩ | h := ite_answers h
  · exact .inr (.inr (.inr (.inr (.inr (.inr (.inr (.inr (.inr (.inr (.inr (.inr (.inr (.inr (.inl ⟨hc, ha⟩))))))))))))))
  obtain ⟨hc, ha⟩ | h := ite_answers h
  · exact .inr (.inr (.inr (.inr (.inr (.inr (.inr (.inr (.inr (.inr (.inr (.inr (.inr (.inr (.inr (.inl ⟨hc, ha⟩)))))))))))))))
  obtain ⟨hc, ha⟩ | h := ite_answers h
  · exact .inr (.inr (.inr (.inr (.inr (.inr (.inr (.inr (.inr (.inr (.inr (.inr (.inr (.inr (.inr (.inr (.inl ⟨hc, ha⟩))))))))))))))))
  obtain ⟨hc, ha⟩ | h := ite_answers h
  · exact .inr (.inr (.inr (.inr (.inr (.inr (.inr (.inr (.inr (.inr (.inr (.inr (.inr (.inr (.inr (.inr (.inr (.inl ⟨hc, ha⟩)))))))))))))))))
  obtain ⟨hc, ha⟩ | h := ite_answers h
  · exact .inr (.inr (.inr (.inr (.inr (.inr (.inr (.inr (.inr (.inr (.inr (.inr (.inr (.inr (.inr (.inr (.inr (.inr (.inl ⟨hc, ha⟩))))))))))))))))))
  obtain ⟨hc, ha⟩ | h := ite_answers h
  · exact .inr (.inr (.inr (.inr (.inr (.inr (.inr (.inr (.inr (.inr (.inr (.inr (.inr (.inr (.inr (.inr (.inr (.inr (.inr (.inl ⟨hc, ha⟩)))))))))))))))))))
  obtain ⟨hc, ha⟩ | h := ite_answers h
  · exact .inr (.inr (.inr (.inr (.inr (.inr (.inr (.inr (.inr (.inr (.inr (.inr (.inr (.inr (.inr (.inr (.inr (.inr (.inr (.inr (.inl ⟨hc, ha⟩))))))))))))))))))))
  obtain ⟨hc, ha⟩ | h := ite_answers h
  · exact .inr (.inr (.inr (.inr (.inr (.inr (.inr (.inr (.inr (.inr (.inr (.inr (.inr (.inr (.inr (.inr (.inr (.inr (.inr (.inr (.inr (⟨hc, ha⟩)))))))))))))))))))))
  cases h

/-- Outside the frames the two decoders agree. -/
theorem decode_eq_decodeCommand {b : Byte} (args : Bytes) (h : b ≠ Config.head) :
    decode (b :: args) = decodeCommand (b :: args) := if_neg h

/-! ### Frames -/

theorem decodeFrame_frameBytes (fn : Byte) {p : Bytes} (c : U16) (h : p.length ≤ 65535) :
    decodeFrame (frameBytes fn p c) = (frameType fn).map fun mk => mk p c := by
  simp [decodeFrame, wellFramed_frameBytes fn c h]

theorem decode_frameBytes (fn : Byte) {p : Bytes} (c : U16) (h : p.length ≤ 65535) :
    decode (frameBytes fn p c) = (frameType fn).map fun mk => mk p c := by
  rw [← decodeFrame_frameBytes fn c h]
  rfl

/-- What `decodeFrame` answers, it read from a well-framed byte string with a recognised code. -/
theorem decodeFrame_cases {f : Bytes} {i : Instr} (h : decodeFrame f = some i) :
    wellFramed f = true ∧ ∃ mk, frameType (byteAt f 1) = some mk ∧ i = mk (payloadOf f) (crcField f) := by
  unfold decodeFrame at h
  split at h
  · obtain ⟨mk, hm, rfl⟩ := Option.map_eq_some_iff.1 h
    exact ⟨‹_›, mk, hm, rfl⟩
  · cases h

/-- R83, R135: the payload of a well-framed byte string fits the length field. -/
theorem payloadOf_length {f : Bytes} (h : wellFramed f = true) :
    (payloadOf f).length + 6 = f.length ∧ (payloadOf f).length ≤ 65535 := by
  have hl := frameBytes_length (byteAt f 1) (payloadOf f) (crcField f)
  rw [frameBytes_of_wellFramed h] at hl
  have := ((wellFramed_iff f).1 h).2.2
  have := (be16 (slice f 2 4)).isLt
  omega

/-- The encoding of the instruction that a frame type makes of a payload and a crc16. -/
theorem encode_frameType {fn : Byte} {mk : Bytes → U16 → Instr} (h : frameType fn = some mk) (p : Bytes) (c : U16) :
    encode (mk p c) = frameBytes fn p c := by
  unfold frameType at h
  repeat' split at h
  all_goals first | (cases h; subst_vars; rfl) | cases h

/-- The head byte is no selector of R105. -/
theorem decodeOp_head (args : Bytes) : decodeOp Config.head args = none := rfl

end Sys2Proof
end

