-- ==== Sys2Proof/Laws/Crc.lean ====
section
/-! SUPPORT. The equations of the CRC validator, and what the frame builder builds. -/

namespace Sys2Proof.Machine

/-- Settling a register changes nothing. -/
@[simp] theorem settled_eq {α : Type} (crc : U16) (k : U16 → α) : settled crc k = k crc := by
  unfold settled
  split
  · rw [‹crc = 0#16›]
  · rfl

@[simp] theorem crc16_nil (crc : U16) : crc16 crc [] = crc := rfl

@[simp] theorem crc16_cons (crc : U16) (b : Byte) (bs : Bytes) : crc16 crc (b :: bs) = crc16 (crcByte crc b) bs := by
  rw [crc16, settled_eq]

/-- The builder's frame is the frame of its function, its payload and its CRC (R80, R124). -/
theorem encodeFrame_eq (init : U16) (fn : Byte) (p : Bytes) :
    encodeFrame init fn p =
      frameBytes fn p (crc16 init ([Config.head, fn] ++ toBe16 (BitVec.ofNat 16 p.length) ++ p)) := by
  simp [encodeFrame, frameBytes]

@[simp] theorem encodeFrame_length (init : U16) (fn : Byte) (p : Bytes) :
    (encodeFrame init fn p).length = 6 + p.length := by
  rw [encodeFrame_eq, frameBytes_length]

/-- What a builder's frame carries is its payload. -/
@[simp] theorem payloadOf_encodeFrame (init : U16) (fn : Byte) (p : Bytes) : payloadOf (encodeFrame init fn p) = p := by
  rw [encodeFrame_eq, payloadOf_frameBytes]

/-- A frame check reads the crc16 field. -/
theorem frameCheck_frameBytes (init : U16) (fn : Byte) (p : Bytes) (c : U16) :
    frameCheck init (frameBytes fn p c) = true ↔
      c = crc16 init ([Config.head, fn] ++ toBe16 (BitVec.ofNat 16 p.length) ++ p) := by
  have hc := crcField_frameBytes fn p c
  have hl : ¬ (frameBytes fn p c).length < 2 := by simp; omega
  have hb : slice (frameBytes fn p c) 0 ((frameBytes fn p c).length - 2) =
      [Config.head, fn] ++ toBe16 (BitVec.ofNat 16 p.length) ++ p := by
    have e : frameBytes fn p c = ([Config.head, fn] ++ toBe16 (BitVec.ofNat 16 p.length) ++ p) ++ toBe16 c := rfl
    have k : (frameBytes fn p c).length - 2 - 0 = ([Config.head, fn] ++ toBe16 (BitVec.ofNat 16 p.length) ++ p).length := by
      simp; omega
    rw [slice, k, e, List.drop_zero, List.take_left']
    rfl
  unfold crcField at hc
  rw [frameCheck, if_neg hl, beq_iff_eq, hc, hb]

end Sys2Proof.Machine
end

