-- ==== Sys2Proof/Laws/State.lean ====
section
/-! SUPPORT. One lemma per field for each update of the state, so that no proof unfolds a record update. -/

namespace Sys2Proof.Machine

variable (s : State)

/-! ### State.emit -/

@[simp] theorem State.emit_rxbuf (e : Event) : (s.emit e).rxbuf = s.rxbuf := rfl
@[simp] theorem State.emit_pend (e : Event) : (s.emit e).pend = s.pend := rfl
@[simp] theorem State.emit_nextId (e : Event) : (s.emit e).nextId = s.nextId := rfl
@[simp] theorem State.emit_now (e : Event) : (s.emit e).now = s.now := rfl
@[simp] theorem State.emit_params (e : Event) : (s.emit e).params = s.params := rfl
@[simp] theorem State.emit_inbox (e : Event) : (s.emit e).inbox = s.inbox := rfl
@[simp] theorem State.emit_verdicts (e : Event) : (s.emit e).verdicts = s.verdicts := rfl
@[simp] theorem State.emit_offers (e : Event) : (s.emit e).offers = s.offers := rfl
@[simp] theorem State.emit_events (e : Event) : (s.emit e).events = s.events ++ [e] := rfl
@[simp] theorem State.emit_reply (e : Event) : (s.emit e).reply = s.reply := rfl

/-! ### State.accept -/

@[simp] theorem State.accept_rxbuf : (s.accept).rxbuf = s.rxbuf := rfl
@[simp] theorem State.accept_pend : (s.accept).pend = s.pend := rfl
@[simp] theorem State.accept_nextId : (s.accept).nextId = s.nextId := rfl
@[simp] theorem State.accept_now : (s.accept).now = s.now := rfl
@[simp] theorem State.accept_params : (s.accept).params = s.params := rfl
@[simp] theorem State.accept_inbox : (s.accept).inbox = s.inbox := rfl
@[simp] theorem State.accept_verdicts : (s.accept).verdicts = s.verdicts := rfl
@[simp] theorem State.accept_offers : (s.accept).offers = s.offers := rfl
@[simp] theorem State.accept_events : (s.accept).events = s.events := rfl
@[simp] theorem State.accept_reply : (s.accept).reply = .accepted := rfl

/-! ### State.hold -/

@[simp] theorem State.hold_rxbuf : (s.hold).rxbuf = s.rxbuf := rfl
@[simp] theorem State.hold_pend : (s.hold).pend = s.pend := rfl
@[simp] theorem State.hold_nextId : (s.hold).nextId = s.nextId := rfl
@[simp] theorem State.hold_now : (s.hold).now = s.now := rfl
@[simp] theorem State.hold_params : (s.hold).params = s.params := rfl
@[simp] theorem State.hold_inbox : (s.hold).inbox = s.inbox := rfl
@[simp] theorem State.hold_verdicts : (s.hold).verdicts = s.verdicts := rfl
@[simp] theorem State.hold_offers : (s.hold).offers = s.offers := rfl
@[simp] theorem State.hold_events : (s.hold).events = s.events := rfl
@[simp] theorem State.hold_reply : (s.hold).reply = .held := rfl

/-! ### State.refuse -/

@[simp] theorem State.refuse_rxbuf : (s.refuse).rxbuf = s.rxbuf := rfl
@[simp] theorem State.refuse_pend : (s.refuse).pend = s.pend := rfl
@[simp] theorem State.refuse_nextId : (s.refuse).nextId = s.nextId := rfl
@[simp] theorem State.refuse_now : (s.refuse).now = s.now := rfl
@[simp] theorem State.refuse_params : (s.refuse).params = s.params := rfl
@[simp] theorem State.refuse_inbox : (s.refuse).inbox = s.inbox := rfl
@[simp] theorem State.refuse_verdicts : (s.refuse).verdicts = s.verdicts := rfl
@[simp] theorem State.refuse_offers : (s.refuse).offers = s.offers := rfl
@[simp] theorem State.refuse_events : (s.refuse).events = s.events := rfl
@[simp] theorem State.refuse_reply : (s.refuse).reply = .refused := rfl

/-! ### State.returning -/

@[simp] theorem State.returning_rxbuf (v : RetVal) : (s.returning v).rxbuf = s.rxbuf := rfl
@[simp] theorem State.returning_pend (v : RetVal) : (s.returning v).pend = s.pend := rfl
@[simp] theorem State.returning_nextId (v : RetVal) : (s.returning v).nextId = s.nextId := rfl
@[simp] theorem State.returning_now (v : RetVal) : (s.returning v).now = s.now := rfl
@[simp] theorem State.returning_params (v : RetVal) : (s.returning v).params = s.params := rfl
@[simp] theorem State.returning_inbox (v : RetVal) : (s.returning v).inbox = s.inbox := rfl
@[simp] theorem State.returning_verdicts (v : RetVal) : (s.returning v).verdicts = s.verdicts := rfl
@[simp] theorem State.returning_offers (v : RetVal) : (s.returning v).offers = s.offers := rfl
@[simp] theorem State.returning_events (v : RetVal) : (s.returning v).events = s.events ++ [.ret v] := rfl
@[simp] theorem State.returning_reply (v : RetVal) : (s.returning v).reply = .accepted := rfl

/-! ### State.pushByte -/

@[simp] theorem State.pushByte_rxbuf (b : Byte) : (s.pushByte b).rxbuf = s.rxbuf ++ [b] := rfl
@[simp] theorem State.pushByte_pend (b : Byte) : (s.pushByte b).pend = s.pend := rfl
@[simp] theorem State.pushByte_nextId (b : Byte) : (s.pushByte b).nextId = s.nextId := rfl
@[simp] theorem State.pushByte_now (b : Byte) : (s.pushByte b).now = s.now := rfl
@[simp] theorem State.pushByte_params (b : Byte) : (s.pushByte b).params = s.params := rfl
@[simp] theorem State.pushByte_inbox (b : Byte) : (s.pushByte b).inbox = s.inbox := rfl
@[simp] theorem State.pushByte_verdicts (b : Byte) : (s.pushByte b).verdicts = s.verdicts := rfl
@[simp] theorem State.pushByte_offers (b : Byte) : (s.pushByte b).offers = s.offers := rfl
@[simp] theorem State.pushByte_events (b : Byte) : (s.pushByte b).events = s.events := rfl
@[simp] theorem State.pushByte_reply (b : Byte) : (s.pushByte b).reply = s.reply := rfl

/-! ### State.dropBytes -/

@[simp] theorem State.dropBytes_rxbuf (n : Nat) : (s.dropBytes n).rxbuf = s.rxbuf.drop n := rfl
@[simp] theorem State.dropBytes_pend (n : Nat) : (s.dropBytes n).pend = s.pend := rfl
@[simp] theorem State.dropBytes_nextId (n : Nat) : (s.dropBytes n).nextId = s.nextId := rfl
@[simp] theorem State.dropBytes_now (n : Nat) : (s.dropBytes n).now = s.now := rfl
@[simp] theorem State.dropBytes_params (n : Nat) : (s.dropBytes n).params = s.params := rfl
@[simp] theorem State.dropBytes_inbox (n : Nat) : (s.dropBytes n).inbox = s.inbox := rfl
@[simp] theorem State.dropBytes_verdicts (n : Nat) : (s.dropBytes n).verdicts = s.verdicts := rfl
@[simp] theorem State.dropBytes_offers (n : Nat) : (s.dropBytes n).offers = s.offers := rfl
@[simp] theorem State.dropBytes_events (n : Nat) : (s.dropBytes n).events = s.events := rfl
@[simp] theorem State.dropBytes_reply (n : Nat) : (s.dropBytes n).reply = s.reply := rfl

/-! ### State.streamError -/

@[simp] theorem State.streamError_rxbuf (r : Reason) (n : Nat) : (s.streamError r n).rxbuf = s.rxbuf.drop n := rfl
@[simp] theorem State.streamError_pend (r : Reason) (n : Nat) : (s.streamError r n).pend = s.pend := rfl
@[simp] theorem State.streamError_nextId (r : Reason) (n : Nat) : (s.streamError r n).nextId = s.nextId := rfl
@[simp] theorem State.streamError_now (r : Reason) (n : Nat) : (s.streamError r n).now = s.now := rfl
@[simp] theorem State.streamError_params (r : Reason) (n : Nat) : (s.streamError r n).params = s.params := rfl
@[simp] theorem State.streamError_inbox (r : Reason) (n : Nat) : (s.streamError r n).inbox = s.inbox := rfl
@[simp] theorem State.streamError_verdicts (r : Reason) (n : Nat) : (s.streamError r n).verdicts = s.verdicts := rfl
@[simp] theorem State.streamError_offers (r : Reason) (n : Nat) : (s.streamError r n).offers = s.offers := rfl
@[simp] theorem State.streamError_events (r : Reason) (n : Nat) : (s.streamError r n).events = s.events ++ [.discard r n] := rfl
@[simp] theorem State.streamError_reply (r : Reason) (n : Nat) : (s.streamError r n).reply = s.reply := rfl

/-! ### State.frameError -/

@[simp] theorem State.frameError_rxbuf (r : Reason) (f : Bytes) : (s.frameError r f).rxbuf = s.rxbuf := rfl
@[simp] theorem State.frameError_pend (r : Reason) (f : Bytes) : (s.frameError r f).pend = s.pend := rfl
@[simp] theorem State.frameError_nextId (r : Reason) (f : Bytes) : (s.frameError r f).nextId = s.nextId := rfl
@[simp] theorem State.frameError_now (r : Reason) (f : Bytes) : (s.frameError r f).now = s.now := rfl
@[simp] theorem State.frameError_params (r : Reason) (f : Bytes) : (s.frameError r f).params = s.params := rfl
@[simp] theorem State.frameError_inbox (r : Reason) (f : Bytes) : (s.frameError r f).inbox = s.inbox := rfl
@[simp] theorem State.frameError_verdicts (r : Reason) (f : Bytes) : (s.frameError r f).verdicts = s.verdicts := rfl
@[simp] theorem State.frameError_offers (r : Reason) (f : Bytes) : (s.frameError r f).offers = s.offers := rfl
@[simp] theorem State.frameError_events (r : Reason) (f : Bytes) : (s.frameError r f).events = s.events ++ [.discard r f.length] := rfl
@[simp] theorem State.frameError_reply (r : Reason) (f : Bytes) : (s.frameError r f).reply = s.reply := rfl

/-! ### State.complete -/

@[simp] theorem State.complete_rxbuf (e : Entry) (r : Result) : (s.complete e r).rxbuf = s.rxbuf := rfl
@[simp] theorem State.complete_pend (e : Entry) (r : Result) : (s.complete e r).pend = s.pend.erase e := rfl
@[simp] theorem State.complete_nextId (e : Entry) (r : Result) : (s.complete e r).nextId = s.nextId := rfl
@[simp] theorem State.complete_now (e : Entry) (r : Result) : (s.complete e r).now = s.now := rfl
@[simp] theorem State.complete_params (e : Entry) (r : Result) : (s.complete e r).params = s.params := rfl
@[simp] theorem State.complete_inbox (e : Entry) (r : Result) : (s.complete e r).inbox = s.inbox := rfl
@[simp] theorem State.complete_verdicts (e : Entry) (r : Result) : (s.complete e r).verdicts = s.verdicts := rfl
@[simp] theorem State.complete_offers (e : Entry) (r : Result) : (s.complete e r).offers = s.offers := rfl
@[simp] theorem State.complete_events (e : Entry) (r : Result) : (s.complete e r).events = s.events ++ [.completion e.id r] := rfl
@[simp] theorem State.complete_reply (e : Entry) (r : Result) : (s.complete e r).reply = s.reply := rfl

/-! ### State.offer -/

@[simp] theorem State.offer_rxbuf (f : Bytes) (ok : Bool) : (s.offer f ok).rxbuf = s.rxbuf := rfl
@[simp] theorem State.offer_pend (f : Bytes) (ok : Bool) : (s.offer f ok).pend = s.pend := rfl
@[simp] theorem State.offer_nextId (f : Bytes) (ok : Bool) : (s.offer f ok).nextId = s.nextId := rfl
@[simp] theorem State.offer_now (f : Bytes) (ok : Bool) : (s.offer f ok).now = s.now := rfl
@[simp] theorem State.offer_params (f : Bytes) (ok : Bool) : (s.offer f ok).params = s.params := rfl
@[simp] theorem State.offer_inbox (f : Bytes) (ok : Bool) : (s.offer f ok).inbox = s.inbox := rfl
@[simp] theorem State.offer_verdicts (f : Bytes) (ok : Bool) : (s.offer f ok).verdicts = s.verdicts.tail := rfl
@[simp] theorem State.offer_offers (f : Bytes) (ok : Bool) : (s.offer f ok).offers = s.offers + 1 := rfl
@[simp] theorem State.offer_events (f : Bytes) (ok : Bool) : (s.offer f ok).events = s.events ++ [.hsOffer f ok] := rfl
@[simp] theorem State.offer_reply (f : Bytes) (ok : Bool) : (s.offer f ok).reply = s.reply := rfl

/-! ### State.advance -/

@[simp] theorem State.advance_rxbuf : (s.advance).rxbuf = s.rxbuf := rfl
@[simp] theorem State.advance_pend : (s.advance).pend = s.pend := rfl
@[simp] theorem State.advance_nextId : (s.advance).nextId = s.nextId := rfl
@[simp] theorem State.advance_now : (s.advance).now = (s.now + 1) % 2 ^ s.params.timeW := rfl
@[simp] theorem State.advance_params : (s.advance).params = s.params := rfl
@[simp] theorem State.advance_inbox : (s.advance).inbox = s.inbox := rfl
@[simp] theorem State.advance_verdicts : (s.advance).verdicts = s.verdicts := rfl
@[simp] theorem State.advance_offers : (s.advance).offers = s.offers := rfl
@[simp] theorem State.advance_events : (s.advance).events = s.events := rfl
@[simp] theorem State.advance_reply : (s.advance).reply = s.reply := rfl

/-! ### State.register -/

@[simp] theorem State.register_rxbuf (id : Nat) (rq : Request) (t : Nat) (f : Bytes) :
    (s.register id rq t f).rxbuf = s.rxbuf := rfl
@[simp] theorem State.register_pend (id : Nat) (rq : Request) (t : Nat) (f : Bytes) :
    (s.register id rq t f).pend = s.pend ++ [newEntry s id rq t] := rfl
@[simp] theorem State.register_nextId (id : Nat) (rq : Request) (t : Nat) (f : Bytes) :
    (s.register id rq t f).nextId = (id + 1) % 2 ^ s.params.idW := rfl
@[simp] theorem State.register_now (id : Nat) (rq : Request) (t : Nat) (f : Bytes) :
    (s.register id rq t f).now = s.now := rfl
@[simp] theorem State.register_params (id : Nat) (rq : Request) (t : Nat) (f : Bytes) :
    (s.register id rq t f).params = s.params := rfl
@[simp] theorem State.register_inbox (id : Nat) (rq : Request) (t : Nat) (f : Bytes) :
    (s.register id rq t f).inbox = s.inbox := rfl
@[simp] theorem State.register_verdicts (id : Nat) (rq : Request) (t : Nat) (f : Bytes) :
    (s.register id rq t f).verdicts = s.verdicts := rfl
@[simp] theorem State.register_offers (id : Nat) (rq : Request) (t : Nat) (f : Bytes) :
    (s.register id rq t f).offers = s.offers := rfl
@[simp] theorem State.register_events (id : Nat) (rq : Request) (t : Nat) (f : Bytes) :
    (s.register id rq t f).events = s.events ++ [.tx f] ++ [.issueAck id] := rfl
@[simp] theorem State.register_reply (id : Nat) (rq : Request) (t : Nat) (f : Bytes) :
    (s.register id rq t f).reply = .accepted := rfl

/-! ### The entry that ISSUE inserts -/

@[simp] theorem newEntry_id (id : Nat) (rq : Request) (t : Nat) : (newEntry s id rq t).id = id := rfl
@[simp] theorem newEntry_request (id : Nat) (rq : Request) (t : Nat) : (newEntry s id rq t).request = rq := rfl
@[simp] theorem newEntry_creationTime (id : Nat) (rq : Request) (t : Nat) :
    (newEntry s id rq t).creationTime = s.now := rfl
@[simp] theorem newEntry_timeout (id : Nat) (rq : Request) (t : Nat) : (newEntry s id rq t).timeout = t := rfl

/-! ### The state after reset -/

@[simp] theorem reset_rxbuf : State.reset.rxbuf = [] := rfl
@[simp] theorem reset_pend : State.reset.pend = [] := rfl
@[simp] theorem reset_nextId : State.reset.nextId = 0 := rfl
@[simp] theorem reset_now : State.reset.now = 0 := rfl
@[simp] theorem reset_params : State.reset.params = Params.default := rfl
@[simp] theorem reset_inbox : State.reset.inbox = [] := rfl
@[simp] theorem reset_verdicts : State.reset.verdicts = [] := rfl
@[simp] theorem reset_offers : State.reset.offers = 0 := rfl
@[simp] theorem reset_events : State.reset.events = [] := rfl
@[simp] theorem reset_reply : State.reset.reply = .none := rfl

end Sys2Proof.Machine
end

