-- ==== Sys2Proof/Laws/Ops.lean ====
section
/-! SUPPORT. What each shared operation can do, said once: the ports, the oracle, the id counter. -/

namespace Sys2Proof.Machine

/-! ### The input ports -/

/-- Either the ports are quiet, or the oldest transaction is taken and nothing else changes. -/
theorem fetch_cases (s : State) :
    (s.inbox = [] ∧ s.fetch = none) ∨
    (∃ t rest, s.inbox = t :: rest ∧ s.fetch = some (t, { s with inbox := rest })) := by
  unfold State.fetch
  split
  · exact .inl ⟨‹_›, rfl⟩
  · exact .inr ⟨_, _, ‹_›, rfl⟩

/-- A next state of `presentAgain` is the given one, its transaction put back if it was held. -/
theorem presentAgain_next {t : Bytes} {o : StepOutcome} {s' : State} (h : presentAgain t o = .next s') :
    ∃ s, o = .next s ∧ ((s.reply = .held ∧ s' = { s with inbox := s.inbox ++ [t] }) ∨ (s.reply ≠ .held ∧ s' = s)) := by
  match o with
  | .next s =>
    rw [presentAgain] at h
    split at h <;> cases h
    · exact ⟨_, rfl, .inl ⟨‹_›, rfl⟩⟩
    · exact ⟨_, rfl, .inr ⟨‹_›, rfl⟩⟩
  | .fault _ => cases h
  | .refused _ => cases h

/-- What a step can do: nothing, refuse what does not decode, or run an instruction. -/
theorem step_cases {s s' : State} (h : step s = .next s') :
    (s.inbox = [] ∧ s' = s) ∨
    ∃ t rest, s.inbox = t :: rest ∧
      ((decodeCommand t = none ∧ s' = State.refuse { s with inbox := rest }) ∨
        ∃ i, decodeCommand t = some i ∧ presentAgain t (exec i { s with inbox := rest }) = .next s') := by
  unfold step at h
  obtain ⟨hi, hf⟩ | ⟨t, rest, hi, hf⟩ := fetch_cases s
  · rw [hf] at h
    cases h
    exact .inl ⟨hi, rfl⟩
  · rw [hf] at h
    refine .inr ⟨t, rest, hi, ?_⟩
    dsimp only at h
    split at h
    · cases h
      exact .inl ⟨‹_›, rfl⟩
    · exact .inr ⟨_, ‹_›, h⟩

/-! ### The oracle -/

/-- The oracle's answer is the environment's, where it has supplied one. -/
theorem verdict_supplied {s : State} {v : Bool} {vs : List Bool} (h : s.verdicts = v :: vs) (f : Bytes) (ok : Bool) :
    s.verdict f ok = v := by
  unfold State.verdict
  rw [h]

/-! ### The id counter -/

/-- The candidate that `ALLOC_ID` tries at turn `j` (R203). -/
def idCandidate (m c : Nat) : Nat → Nat
  | 0 => c
  | j + 1 => idCandidate m ((c + 1) % m) j

theorem idCandidate_of_lt {m c : Nat} (hc : c < m) (j : Nat) : idCandidate m c j = (c + j) % m := by
  induction j generalizing c with
  | zero => rw [idCandidate, Nat.add_zero, Nat.mod_eq_of_lt hc]
  | succ j ih =>
    rw [idCandidate, ih (Nat.mod_lt _ (by omega)), Nat.mod_add_mod]
    congr 1
    omega

/-- R203: the id found is the first candidate that is not live. -/
theorem searchId_some {live : List Nat} {m k c id : Nat} (h : searchId live m k c = some id) :
    ∃ j, j < k ∧ id = idCandidate m c j ∧ id ∉ live ∧ ∀ i, i < j → idCandidate m c i ∈ live := by
  induction k generalizing c with
  | zero => cases h
  | succ k ih =>
    rw [searchId] at h
    split at h
    · obtain ⟨j, hj, rfl, hn, hb⟩ := ih h
      refine ⟨j + 1, by omega, rfl, hn, fun i hi => ?_⟩
      cases i with
      | zero => exact ‹c ∈ live›
      | succ i => exact hb i (by omega)
    · cases h
      exact ⟨0, by omega, rfl, ‹_›, by omega⟩

/-- The search fails only where every candidate is live. -/
theorem searchId_none {live : List Nat} {m k c : Nat} (h : searchId live m k c = none) :
    ∀ j, j < k → idCandidate m c j ∈ live := by
  induction k generalizing c with
  | zero => omega
  | succ k ih =>
    rw [searchId] at h
    split at h
    · intro j hj
      cases j with
      | zero => exact ‹c ∈ live›
      | succ j => exact ih h j (by omega)
    · cases h

/-- The id allocated is live under no entry (R26). -/
theorem allocId_fresh {s : State} {id : Nat} (h : allocId s = some id) : id ∉ liveIds s.pend := by
  obtain ⟨_, _, _, hn, _⟩ := searchId_some h
  exact hn

/-- The id allocated fits its width. -/
theorem allocId_lt {s : State} {id : Nat} (hs : s.nextId < 2 ^ s.params.idW) (h : allocId s = some id) :
    id < 2 ^ s.params.idW := by
  obtain ⟨j, _, rfl, _, _⟩ := searchId_some h
  rw [idCandidate_of_lt hs]
  exact Nat.mod_lt _ (by positivity)

/-- R203: no id is found only where every id is live, since the search tries one more than there are entries. -/
theorem allocId_none {s : State} (hn : s.nextId < 2 ^ s.params.idW) (h : allocId s = none) :
    ∀ id, id < 2 ^ s.params.idW → id ∈ liveIds s.pend := by
  have hc := searchId_none h
  intro id hid
  by_cases hm : 2 ^ s.params.idW ≤ s.pend.length + 1
  · by_cases hge : s.nextId ≤ id
    · have := hc (id - s.nextId) (by omega)
      rw [idCandidate_of_lt hn] at this
      rwa [show s.nextId + (id - s.nextId) = id by omega, Nat.mod_eq_of_lt hid] at this
    · have := hc (2 ^ s.params.idW - s.nextId + id) (by omega)
      rw [idCandidate_of_lt hn] at this
      rwa [show s.nextId + (2 ^ s.params.idW - s.nextId + id) = id + 2 ^ s.params.idW by omega, Nat.add_mod_right, Nat.mod_eq_of_lt hid] at this
  · exfalso
    have hnd : ((List.range (s.pend.length + 1)).map (fun j => (s.nextId + j) % 2 ^ s.params.idW)).Nodup := by
      refine (List.nodup_map_iff_inj_on List.nodup_range).2 ?_
      intro a ha b hb hab
      rw [List.mem_range] at ha hb
      have := Nat.ModEq.add_left_cancel' _ (show (s.nextId + a) ≡ (s.nextId + b) [MOD 2 ^ s.params.idW] from hab)
      exact Nat.ModEq.eq_of_lt_of_lt this (by omega) (by omega)
    have hsub := hnd.subperm (l₂ := liveIds s.pend) (by
      intro x hx
      obtain ⟨j, hj, rfl⟩ := List.mem_map.1 hx
      have := hc j (List.mem_range.1 hj)
      rwa [idCandidate_of_lt hn] at this)
    have := hsub.length_le
    simp [liveIds] at this

end Sys2Proof.Machine
end

