-- ==== Sys2Proof/Laws/Correlator.lean ====
section
/-! SUPPORT. What the operations of the correlator can do, said once: `ISSUE`, `CORRELATE`, one turn of `TICK`. -/

namespace Sys2Proof.Machine

/-- R190: an `ISSUE` that answers a next state refused its timeout, was held by a full table or for want of an id, or
registered its entry. -/
theorem issue_cases {request : Request} {frame : Bytes} {timeout : Nat} {s s' : State}
    (h : issue request frame timeout s = .next s') :
    (2 ^ s.params.timeW ≤ timeout ∧ s' = s.refuse) ∨
    (timeout < 2 ^ s.params.timeW ∧ (s.params.nPending = some s.pend.length ∨ allocId s = none) ∧ s' = s.hold) ∨
    (timeout < 2 ^ s.params.timeW ∧ s.params.nPending ≠ some s.pend.length ∧
      ∃ id, allocId s = some id ∧ s' = s.register id request timeout frame) := by
  have ht := fitsTime_iff s.params timeout
  have hf := tableFull_iff s.params s.pend
  unfold issue at h
  split at h
  · cases h
    rename_i hn
    rw [hn] at ht
    exact .inl ⟨by simp at ht; omega, rfl⟩
  · rename_i hn
    have hlt := ht.1 (by simpa using hn)
    split at h
    · cases h
      exact .inr (.inl ⟨hlt, .inl (hf.1 ‹_›), rfl⟩)
    · rename_i hnf
      split at h <;> cases h
      · exact .inr (.inr ⟨hlt, fun hc => hnf (hf.2 hc), _, ‹_›, rfl⟩)
      · exact .inr (.inl ⟨hlt, .inr ‹_›, rfl⟩)

/-- R269: an `ISSUE` always answers a next state. -/
theorem issue_next (request : Request) (frame : Bytes) (timeout : Nat) (s : State) :
    ∃ s', issue request frame timeout s = .next s' := by
  unfold issue
  split
  · exact ⟨_, rfl⟩
  · split
    · exact ⟨_, rfl⟩
    · split <;> exact ⟨_, rfl⟩

/-- R197: `CORRELATE` completes the oldest entry that matches, or discards the frame as unmatched. -/
theorem correlate_cases (f : Bytes) (s : State) :
    (∃ older e newer, s.pend = older ++ e :: newer ∧ (∀ x ∈ older, matchesFrame f x = false) ∧ matchesFrame f e = true ∧
      correlate f s = s.complete e (responseFor s.params.crcInit f e)) ∨
    ((∀ x ∈ s.pend, matchesFrame f x = false) ∧ correlate f s = s.frameError .unmatched f) := by
  unfold correlate
  split
  · rename_i e he
    obtain ⟨hm, older, newer, hp, ho⟩ := List.find?_eq_some_iff_append.1 he
    refine .inl ⟨older, e, newer, hp, fun x hx => ?_, hm, rfl⟩
    simpa using ho x hx
  · rename_i hn
    exact .inr ⟨fun x hx => by simpa using List.find?_eq_none.1 hn x hx, rfl⟩

/-- Erasing an entry that nothing older matches takes it out of its place. -/
theorem erase_oldest {p : Entry → Bool} {older newer : List Entry} {e : Entry}
    (ho : ∀ x ∈ older, p x = false) (he : p e = true) : (older ++ e :: newer).erase e = older ++ newer := by
  have hn : e ∉ older := fun hx => by simp [ho e hx] at he
  rw [List.erase_append_right _ hn, List.erase_cons_head]

/-- R200: a turn of `TICK` completes its entry with `Timeout`, or does nothing. -/
theorem tickEntry_cases (s : State) (e : Entry) :
    (expired s.params s.now e = true ∧ tickEntry s e = s.complete e (.error .timeout)) ∨
    (expired s.params s.now e = false ∧ tickEntry s e = s) := by
  unfold tickEntry
  split
  · exact .inl ⟨‹_›, rfl⟩
  · exact .inr ⟨Bool.eq_false_iff.2 ‹_›, rfl⟩

/-- The expiry test over the integers, as R200 writes it. -/
theorem expired_iff (p : Params) (now : Nat) (e : Entry) : expired p now e = true ↔
    (e.timeout : Int) ≤ ((now : Int) - (e.creationTime : Int)) % ((2 ^ p.timeW : Nat) : Int) := by
  have hpos : ((2 ^ p.timeW : Nat) : Int) ≠ 0 := by positivity
  have h := Int.emod_nonneg ((now : Int) - (e.creationTime : Int)) hpos
  unfold expired elapsed
  rw [decide_eq_true_iff]
  omega

/-- The turns of `TICK` touch the table and the events alone. -/
theorem tickEntries_frame (es : List Entry) (s : State) :
    ∃ pend events, es.foldl tickEntry s = { s with pend := pend, events := s.events ++ events } := by
  induction es generalizing s with
  | nil => exact ⟨s.pend, [], by simp⟩
  | cons e es ih =>
    obtain ⟨pend, events, h⟩ := ih (tickEntry s e)
    rw [List.foldl_cons, h]
    obtain ⟨_, ht⟩ | ⟨_, ht⟩ := tickEntry_cases s e
    · exact ⟨pend, .completion e.id (.error .timeout) :: events, by simp [ht, State.complete, State.emit]⟩
    · exact ⟨pend, events, by simp [ht]⟩

/-- `PARSE_RESPONSE` reads the declared type only where no write is awaited (R133). -/
theorem parseResponse_type_unread (init : U16) (f : Bytes) (expected : Option U16) (t u : DType) :
    parseResponse init f true expected t = parseResponse init f true expected u := by
  unfold parseResponse parseAckWithData
  rfl

end Sys2Proof.Machine
end

