-- ==== Sys2Proof/Laws/Reassembler.lean ====
section
/-! SUPPORT. What a pass does to the buffer, what its actions do to the state, and what a dispatch can do, said once. -/

namespace Sys2Proof.Machine

/-! ### The pass -/

/-- No head byte from `start` on. -/
theorem headFrom_none {start : Nat} {buf : Bytes} : headFrom start buf = none ↔ Config.head ∉ buf.drop start := by
  unfold headFrom
  rw [Option.map_eq_none_iff, List.findIdx?_eq_none_iff]
  constructor
  · intro h hm
    exact absurd (h _ hm) (by decide)
  · intro h x hx
    exact beq_false_of_ne fun e => h (e ▸ hx)

/-- R163: the head byte found is the first. -/
theorem headFrom_zero_append {g rest : Bytes} (h : Config.head ∉ g) :
    headFrom 0 (g ++ Config.head :: rest) = some g.length := by
  have hn : g.findIdx? (· == Config.head) = none :=
    List.findIdx?_eq_none_iff.2 fun x hx => beq_false_of_ne fun e => h (e ▸ hx)
  unfold headFrom
  rw [List.drop_zero, List.findIdx?_append, hn, List.findIdx?_cons, if_pos (by decide)]
  simp

/-- R166: the next head byte found behind the first byte is the first there. -/
theorem headFrom_one_append {b : Byte} {g rest : Bytes} (h : Config.head ∉ g) :
    headFrom 1 (b :: (g ++ Config.head :: rest)) = some (g.length + 1) := by
  have h0 := headFrom_zero_append (rest := rest) h
  unfold headFrom at h0 ⊢
  rw [List.drop_zero] at h0
  rw [List.drop_one, List.tail_cons]
  cases hx : (g ++ Config.head :: rest).findIdx? (· == Config.head) <;> simp_all

/-- An offset at which the head byte is found lies in the buffer, at or behind `start`. -/
theorem headFrom_some {start : Nat} {buf : Bytes} {j : Nat} (h : headFrom start buf = some j) :
    start ≤ j ∧ j < buf.length ∧ byteAt buf j = Config.head := by
  unfold headFrom at h
  obtain ⟨k, hk, rfl⟩ := Option.map_eq_some_iff.1 h
  obtain ⟨hlt, hb, _⟩ := List.findIdx?_eq_some_iff_getElem.1 hk
  rw [List.length_drop] at hlt
  have hb' := eq_of_beq hb
  rw [List.getElem_drop] at hb'
  refine ⟨by omega, by omega, ?_⟩
  rw [byteAt, List.getD_eq_getElem?_getD, Nat.add_comm k start, List.getElem?_eq_getElem (by omega)]
  exact hb'

/-- The bytes an action takes out of the buffer. -/
def Action.size : Action → Nat
  | .drop _ n => n
  | .cut f => f.length

/-- The bytes that actions take out of the buffer. -/
def actionsSize (acts : List Action) : Nat := (acts.map Action.size).sum

@[simp] theorem actionsSize_nil : actionsSize [] = 0 := rfl
@[simp] theorem actionsSize_cons (a : Action) (acts : List Action) : actionsSize (a :: acts) = a.size + actionsSize acts := by
  simp [actionsSize]
@[simp] theorem actionsSize_append (as bs : List Action) : actionsSize (as ++ bs) = actionsSize as + actionsSize bs := by
  simp [actionsSize]

/-- The actions and the bytes that remain of a trip. -/
def Trip.result : Trip → List Action × Bytes
  | .stop acts rest => (acts, rest)
  | .again acts rest => (acts, rest)

/-- What a trip leaves is what is behind the bytes its actions take out. -/
def Exact (buf : Bytes) (r : List Action × Bytes) : Prop := actionsSize r.1 ≤ buf.length ∧ r.2 = buf.drop (actionsSize r.1)

theorem frameTotal_pos (buf : Bytes) : 6 ≤ frameTotal buf := Nat.le_add_right _ _

/-- S4 to S7 take out what their actions say, behind what was taken out before. -/
theorem tripAtHead_exact {whole : Bytes} {acts : List Action} (ha : actionsSize acts ≤ whole.length) :
    Exact whole (tripAtHead acts (whole.drop (actionsSize acts))).result := by
  unfold tripAtHead
  split
  · exact ⟨ha, rfl⟩
  · split
    · unfold tripCut
      split
      · exact ⟨ha, rfl⟩
      · rename_i hl
        rw [List.length_drop] at hl
        simp only [Trip.result, Exact, actionsSize_append, actionsSize_cons, actionsSize_nil, Action.size,
          List.length_take, List.length_drop, List.drop_drop]
        rw [Nat.min_eq_left (by omega)]
        exact ⟨by omega, by simp⟩
    · unfold tripBadFunction
      split
      · simp only [Trip.result, Exact, actionsSize_append, actionsSize_cons, actionsSize_nil, Action.size,
          List.length_drop]
        exact ⟨by omega, (List.drop_of_length_le (by omega)).symm⟩
      · rename_i j hj
        have h3 := (headFrom_some hj).2.1
        rw [List.length_drop] at h3
        simp only [Trip.result, Exact, actionsSize_append, actionsSize_cons, actionsSize_nil, Action.size,
          List.drop_drop]
        exact ⟨by omega, by simp⟩

/-- A trip takes out what its actions say. -/
theorem trip_exact (buf : Bytes) : Exact buf (trip buf).result := by
  unfold trip
  split
  · exact ⟨Nat.zero_le _, rfl⟩
  · split
    · simp only [Trip.result, Exact, actionsSize_cons, actionsSize_nil, Action.size]
      exact ⟨by omega, (List.drop_of_length_le (by omega)).symm⟩
    · exact tripAtHead_exact (acts := []) (Nat.zero_le _)
    · rename_i i hi
      have h3 := (headFrom_some hi).2.1
      exact tripAtHead_exact (acts := [.drop .beforeHead (i + 1)]) (by simpa [Action.size] using h3.le)

/-- Any number of trips take out what their actions say. -/
theorem passTrips_exact (n : Nat) (buf : Bytes) : Exact buf (passTrips n buf) := by
  induction n generalizing buf with
  | zero => exact ⟨Nat.zero_le _, rfl⟩
  | succ n ih =>
    have ht := trip_exact buf
    rw [passTrips]
    split <;> rename_i acts rest he <;> rw [he] at ht
    · exact ht
    · obtain ⟨h1, h2⟩ := ht
      obtain ⟨h3, h4⟩ := ih rest
      simp only [Trip.result] at h1 h2
      subst h2
      rw [List.length_drop] at h3
      refine ⟨?_, ?_⟩
      · simp only [actionsSize_append]
        omega
      · simp only [actionsSize_append]
        rw [h4, List.drop_drop]

/-- What a pass leaves is a suffix of what it was given. -/
theorem runPass_suffix (buf : Bytes) : (runPass buf).2 <:+ buf := by
  rw [runPass, (passTrips_exact _ buf).2]
  exact List.drop_suffix _ _

/-- Every byte string has no head byte, or a first one. -/
theorem head_cases (buf : Bytes) : Config.head ∉ buf ∨ ∃ g rest, Config.head ∉ g ∧ buf = g ++ Config.head :: rest := by
  induction buf with
  | nil => exact .inl (by simp)
  | cons b buf ih =>
    by_cases hb : b = Config.head
    · exact .inr ⟨[], buf, by simp, by rw [hb]; rfl⟩
    · obtain h | ⟨g, rest, h, rfl⟩ := ih
      · exact .inl (by simp [h, Ne.symm hb])
      · exact .inr ⟨b :: g, rest, by simp [h, Ne.symm hb], rfl⟩

/-- R83: bytes behind the first six do not change what the length field says. -/
theorem frameTotal_append {f rest : Bytes} (h : 6 ≤ f.length) : frameTotal (f ++ rest) = frameTotal f := by
  unfold frameTotal lengthField slice
  rw [List.drop_append_of_le_length (by omega), List.take_append_of_le_length (by simp; omega)]

/-- What a trip did before its head byte stands before what it does from there on. -/
theorem tripAtHead_acts (acts : List Action) (buf : Bytes) :
    tripAtHead acts buf = match tripAtHead [] buf with
      | .stop as rest => .stop (acts ++ as) rest
      | .again as rest => .again (acts ++ as) rest := by
  unfold tripAtHead tripCut tripBadFunction
  repeat' split
  all_goals simp_all

/-- The candidates of two lists of actions. -/
@[simp] theorem cutFrames_append (as bs : List Action) : cutFrames (as ++ bs) = cutFrames as ++ cutFrames bs := by
  induction as with
  | nil => rfl
  | cons a as ih => cases a <;> simp [cutFrames, ih]

/-! ### Dispatch -/

/-- R174: a report is delivered, or discarded as malformed. -/
theorem dispatchReport_cases (f : Bytes) (s : State) :
    (∃ records, parseReport (payloadOf f) = some records ∧ dispatchReport f s = s.emit (.report (byteAt f 1) records)) ∨
    (parseReport (payloadOf f) = none ∧ dispatchReport f s = s.frameError .malformed f) := by
  unfold dispatchReport
  split
  · exact .inr ⟨‹_›, rfl⟩
  · exact .inl ⟨_, ‹_›, rfl⟩

/-- R172 to R175: after the offer a frame fails its CRC, is correlated, is a report, or has no handler. -/
theorem dispatchChecked_cases (f : Bytes) (s : State) :
    (frameCheck s.params.crcInit f = false ∧ dispatchChecked f s = s.frameError .crcMismatch f) ∨
    (frameCheck s.params.crcInit f = true ∧ (byteAt f 1 = 0x11#8 ∨ byteAt f 1 = 0xF1#8) ∧
      dispatchChecked f s = correlate f s) ∨
    (frameCheck s.params.crcInit f = true ∧ (byteAt f 1 = 0x40#8 ∨ byteAt f 1 = 0x50#8 ∨ byteAt f 1 = 0x60#8) ∧
      dispatchChecked f s = dispatchReport f s) ∨
    (frameCheck s.params.crcInit f = true ∧ dispatchChecked f s = s.frameError .unknownResponseType f) := by
  unfold dispatchChecked
  split
  · exact .inl ⟨‹_›, rfl⟩
  · have hc := Bool.eq_true_of_not_eq_false ‹_›
    split
    · exact .inr (.inl ⟨hc, ‹_›, rfl⟩)
    · split
      · exact .inr (.inr (.inl ⟨hc, ‹_›, rfl⟩))
      · exact .inr (.inr (.inr ⟨hc, rfl⟩))

/-- R170, R171: a `CONNECT` or `MCU_RESET` is offered and consumed, or offered and declined; any other is not offered. -/
theorem dispatch_cases (f : Bytes) (s : State) :
    ((byteAt f 1 = 0xE0#8 ∨ byteAt f 1 = 0xF0#8) ∧
      ((s.verdict f (frameCheck s.params.crcInit f) = true ∧
          dispatch f s = s.offer f (frameCheck s.params.crcInit f)) ∨
        (s.verdict f (frameCheck s.params.crcInit f) = false ∧
          dispatch f s = dispatchChecked f (s.offer f (frameCheck s.params.crcInit f))))) ∨
    (¬ (byteAt f 1 = 0xE0#8 ∨ byteAt f 1 = 0xF0#8) ∧ dispatch f s = dispatchChecked f s) := by
  unfold dispatch dispatchOffered
  split
  · refine .inl ⟨‹_›, ?_⟩
    split
    · exact .inl ⟨‹_›, rfl⟩
    · exact .inr ⟨Bool.eq_false_iff.2 ‹_›, rfl⟩
  · exact .inr ⟨‹_›, rfl⟩

/-- What a dispatch can touch: the table, the oracle's places and the events, which it only adds to. -/
def Touched (s s' : State) : Prop :=
  ∃ pend verdicts offers events, s' = { s with
    pend := pend, verdicts := verdicts, offers := offers, events := s.events ++ events }

theorem Touched.refl (s : State) : Touched s s := ⟨s.pend, s.verdicts, s.offers, [], by simp⟩

theorem Touched.trans {s t u : State} (h : Touched s t) (k : Touched t u) : Touched s u := by
  obtain ⟨p, v, o, es, rfl⟩ := h
  obtain ⟨p', v', o', es', rfl⟩ := k
  exact ⟨p', v', o', es ++ es', by simp⟩

theorem Touched.emit (s : State) (e : Event) : Touched s (s.emit e) := ⟨s.pend, s.verdicts, s.offers, [e], rfl⟩

theorem dispatchReport_touched (f : Bytes) (s : State) : Touched s (dispatchReport f s) := by
  obtain ⟨_, _, h⟩ | ⟨_, h⟩ := dispatchReport_cases f s <;> rw [h] <;> exact .emit _ _

theorem correlate_touched (f : Bytes) (s : State) : Touched s (correlate f s) := by
  obtain ⟨_, e, _, _, _, _, h⟩ | ⟨_, h⟩ := correlate_cases f s <;> rw [h]
  · exact ⟨s.pend.erase e, s.verdicts, s.offers, [_], rfl⟩
  · exact .emit _ _

theorem dispatchChecked_touched (f : Bytes) (s : State) : Touched s (dispatchChecked f s) := by
  obtain ⟨_, h⟩ | ⟨_, _, h⟩ | ⟨_, _, h⟩ | ⟨_, h⟩ := dispatchChecked_cases f s <;> rw [h]
  · exact .emit _ _
  · exact correlate_touched f s
  · exact dispatchReport_touched f s
  · exact .emit _ _

/-- The frame of a dispatch (R169 to R175). -/
theorem dispatch_touched (f : Bytes) (s : State) : Touched s (dispatch f s) := by
  have ho : Touched s (s.offer f (frameCheck s.params.crcInit f)) := ⟨s.pend, s.verdicts.tail, s.offers + 1, [_], rfl⟩
  obtain ⟨_, ⟨_, h⟩ | ⟨_, h⟩⟩ | ⟨_, h⟩ := dispatch_cases f s <;> rw [h]
  · exact ho
  · exact ho.trans (dispatchChecked_touched f _)
  · exact dispatchChecked_touched f s

theorem correlate_pend (f : Bytes) (s : State) : (correlate f s).pend.Sublist s.pend := by
  obtain ⟨_, e, _, _, _, _, h⟩ | ⟨_, h⟩ := correlate_cases f s <;> rw [h]
  · exact List.erase_sublist
  · exact .refl _

theorem dispatchChecked_pend (f : Bytes) (s : State) : (dispatchChecked f s).pend.Sublist s.pend := by
  obtain ⟨_, h⟩ | ⟨_, _, h⟩ | ⟨_, _, h⟩ | ⟨_, h⟩ := dispatchChecked_cases f s <;> rw [h]
  · exact .refl _
  · exact correlate_pend f s
  · obtain ⟨_, _, h⟩ | ⟨_, h⟩ := dispatchReport_cases f s <;> rw [h] <;> exact .refl _
  · exact .refl _

/-- A dispatch can only take entries out of the table. -/
theorem dispatch_pend (f : Bytes) (s : State) : (dispatch f s).pend.Sublist s.pend := by
  obtain ⟨_, ⟨_, h⟩ | ⟨_, h⟩⟩ | ⟨_, h⟩ := dispatch_cases f s <;> rw [h]
  · exact .refl _
  · exact dispatchChecked_pend f _
  · exact dispatchChecked_pend f s

/-- The actions of a pass can only take entries out of the table. -/
theorem runActions_pend (acts : List Action) (s : State) : (runActions s acts).pend.Sublist s.pend := by
  induction acts generalizing s with
  | nil => exact .refl _
  | cons a acts ih =>
    refine (ih (runAction s a)).trans ?_
    cases a with
    | drop r n => exact .refl _
    | cut f => exact dispatch_pend f s

/-- The frame of an action: as a dispatch, and the action's bytes leave the buffer. -/
theorem runAction_touched (s : State) (a : Action) :
    ∃ s', Touched s s' ∧ runAction s a = s'.dropBytes a.size := by
  match a with
  | .drop reason n => exact ⟨_, .emit s (.discard reason n), rfl⟩
  | .cut f => exact ⟨_, dispatch_touched f s, rfl⟩

/-- The frame of a pass's actions. -/
theorem runActions_touched (acts : List Action) (s : State) :
    ∃ s', Touched s s' ∧ runActions s acts = s'.dropBytes (actionsSize acts) := by
  induction acts generalizing s with
  | nil => exact ⟨s, .refl s, by simp [runActions, State.dropBytes]⟩
  | cons a acts ih =>
    obtain ⟨s₁, h₁, e₁⟩ := runAction_touched s a
    obtain ⟨s₂, h₂, e₂⟩ := ih (runAction s a)
    rw [e₁] at h₂ e₂
    obtain ⟨p, v, o, es, rfl⟩ := h₁
    obtain ⟨p', v', o', es', rfl⟩ := h₂
    refine ⟨{ s with pend := p', verdicts := v', offers := o', events := s.events ++ (es ++ es') }, ⟨_, _, _, _, rfl⟩, ?_⟩
    have e : runActions s (a :: acts) = runActions (runAction s a) acts := rfl
    rw [e, e₁, e₂]
    simp [State.dropBytes, List.drop_drop]

end Sys2Proof.Machine
end

