-- ==== Sys2Proof/Laws/Exec.lean ====
section
/-! SUPPORT. What `exec` runs for each shape of instruction, and the frame of the operations on the ports. -/

namespace Sys2Proof.Machine

/-- Only the given state is the next state of a `next`. -/
theorem next_eq {s t : State} (h : (.next s : StepOutcome) = .next t) : t = s := by
  cases h
  rfl

/-- The frame types, with their function codes (R84). -/
def isFrame : Instr → Bool
  | .read _ _ | .write _ _ | .upgradeData _ _ | .upgradeCrc _ _ | .connect _ _ | .mcuReset _ _ => true
  | .ackWithData _ _ | .ackNoData _ _ | .report40 _ _ | .report50 _ _ | .report60 _ _ => true
  | .crc16 _ | .pack _ _ | .unpack _ _ | .encode _ _ | .frameCheck _ | .parseResponse _ _ _ _ | .parseReport _ => false
  | .buildRead _ | .buildWrite _ _ _ | .buildHandshake | .buildStatusReply _ _ | .buildUpgradePacket _ _ => false
  | .buildUpgradePackets _ | .buildUpgradeCrc _ _ => false
  | .issueRead _ _ _ | .issueWrite _ _ _ _ | .issueUpgradeData _ _ _ | .issueUpgradeCrc _ _ _ => false
  | .send _ _ | .rxPush _ | .tick | .reset => false

/-- R170: the meaning of a received frame is the dispatch of its bytes. -/
theorem exec_frame {i : Instr} (h : isFrame i = true) (s : State) : exec i s = .next (dispatch (encode i) s) := by
  cases i <;> first | rfl | cases h

/-- A frame type is one of `frameType`'s. -/
theorem isFrame_frameType {fn : Byte} {mk : Bytes → U16 → Instr} (h : frameType fn = some mk) (p : Bytes) (c : U16) :
    isFrame (mk p c) = true := by
  unfold frameType at h
  repeat' split at h
  all_goals first | (cases h; rfl) | cases h

/-- R138: what a pure command does to the state, whatever it returns. -/
theorem returning_eq (s : State) (v : RetVal) :
    s.returning v = { s with events := s.events ++ [.ret v], reply := .accepted } := rfl

theorem refuse_eq (s : State) : s.refuse = { s with reply := .refused } := rfl
theorem hold_eq (s : State) : s.hold = { s with reply := .held } := rfl

/-- R190: what an accepted `ISSUE` leaves. -/
theorem register_eq (s : State) (id : Nat) (request : Request) (timeout : Nat) (frame : Bytes) :
    s.register id request timeout frame = { s with
      pend := s.pend ++ [newEntry s id request timeout]
      nextId := (id + 1) % 2 ^ s.params.idW
      events := s.events ++ [.tx frame, .issueAck id]
      reply := .accepted } := by
  simp [State.register, State.emit, State.accept]

/-- R200: the turns of `TICK` over the table, then the acceptance. -/
theorem exec_tick (s : State) : exec .tick s = .next (s.pend.foldl tickEntry s.advance).accept := rfl

/-- R160: the actions of the pass over the buffer with its new byte. -/
theorem exec_rxPush (b : Byte) (s : State) :
    exec (.rxPush b) s = .next (runActions (s.pushByte b) (runPass (s.rxbuf ++ [b])).1).accept := rfl

end Sys2Proof.Machine
end

