-- ==== Sys2Proof/Laws/PerInstr.lean ====
section
/-! SUPPORT. The family stated per instruction: an instruction's bytes begin with the fixed bits of its row of
spec/opcode_table.json. -/

namespace Sys2Proof.Laws

/-- The fixed bits of an instruction's row: head and function of a frame (R108), the selector of a transaction (R105). -/
def fixedBytes : Instr → Bytes
  | .read _ _ => [0x5A#8, 0x10#8]
  | .write _ _ => [0x5A#8, 0x20#8]
  | .upgradeData _ _ => [0x5A#8, 0x30#8]
  | .upgradeCrc _ _ => [0x5A#8, 0x31#8]
  | .connect _ _ => [0x5A#8, 0xE0#8]
  | .mcuReset _ _ => [0x5A#8, 0xF0#8]
  | .ackWithData _ _ => [0x5A#8, 0x11#8]
  | .ackNoData _ _ => [0x5A#8, 0xF1#8]
  | .report40 _ _ => [0x5A#8, 0x40#8]
  | .report50 _ _ => [0x5A#8, 0x50#8]
  | .report60 _ _ => [0x5A#8, 0x60#8]
  | .crc16 _ => [0x01#8]
  | .pack _ _ => [0x02#8]
  | .unpack _ _ => [0x03#8]
  | .encode _ _ => [0x04#8]
  | .frameCheck _ => [0x05#8]
  | .parseResponse _ _ _ _ => [0x06#8]
  | .parseReport _ => [0x07#8]
  | .buildRead _ => [0x10#8]
  | .buildWrite _ _ _ => [0x11#8]
  | .buildHandshake => [0x12#8]
  | .buildStatusReply _ _ => [0x13#8]
  | .buildUpgradePacket _ _ => [0x14#8]
  | .buildUpgradePackets _ => [0x15#8]
  | .buildUpgradeCrc _ _ => [0x16#8]
  | .issueRead _ _ _ => [0x20#8]
  | .issueWrite _ _ _ _ => [0x21#8]
  | .issueUpgradeData _ _ _ => [0x22#8]
  | .issueUpgradeCrc _ _ _ => [0x23#8]
  | .send _ _ => [0x24#8]
  | .rxPush _ => [0x30#8]
  | .tick => [0x31#8]
  | .reset => [0x3F#8]

/-- The bytes of the instruction begin with the fixed bits of its row. -/
def StartsAsTable.Statement (i : Instr) : Prop := fixedBytes i <+: encode i

theorem StartsAsTable.read (payload : Bytes) (crc : U16) :
    StartsAsTable.Statement (.read payload crc) := ⟨_, rfl⟩
theorem StartsAsTable.write (payload : Bytes) (crc : U16) :
    StartsAsTable.Statement (.write payload crc) := ⟨_, rfl⟩
theorem StartsAsTable.upgradeData (payload : Bytes) (crc : U16) :
    StartsAsTable.Statement (.upgradeData payload crc) := ⟨_, rfl⟩
theorem StartsAsTable.upgradeCrc (payload : Bytes) (crc : U16) :
    StartsAsTable.Statement (.upgradeCrc payload crc) := ⟨_, rfl⟩
theorem StartsAsTable.connect (payload : Bytes) (crc : U16) :
    StartsAsTable.Statement (.connect payload crc) := ⟨_, rfl⟩
theorem StartsAsTable.mcuReset (payload : Bytes) (crc : U16) :
    StartsAsTable.Statement (.mcuReset payload crc) := ⟨_, rfl⟩
theorem StartsAsTable.ackWithData (payload : Bytes) (crc : U16) :
    StartsAsTable.Statement (.ackWithData payload crc) := ⟨_, rfl⟩
theorem StartsAsTable.ackNoData (payload : Bytes) (crc : U16) :
    StartsAsTable.Statement (.ackNoData payload crc) := ⟨_, rfl⟩
theorem StartsAsTable.report40 (payload : Bytes) (crc : U16) :
    StartsAsTable.Statement (.report40 payload crc) := ⟨_, rfl⟩
theorem StartsAsTable.report50 (payload : Bytes) (crc : U16) :
    StartsAsTable.Statement (.report50 payload crc) := ⟨_, rfl⟩
theorem StartsAsTable.report60 (payload : Bytes) (crc : U16) :
    StartsAsTable.Statement (.report60 payload crc) := ⟨_, rfl⟩
theorem StartsAsTable.crc16 (bytes : Bytes) :
    StartsAsTable.Statement (.crc16 bytes) := ⟨_, rfl⟩
theorem StartsAsTable.pack (value : U32) (type : DType) :
    StartsAsTable.Statement (.pack value type) := ⟨_, rfl⟩
theorem StartsAsTable.unpack (raw : U32) (type : DType) :
    StartsAsTable.Statement (.unpack raw type) := ⟨_, rfl⟩
theorem StartsAsTable.encode (function : Byte) (payload : Bytes) :
    StartsAsTable.Statement (.encode function payload) := ⟨_, rfl⟩
theorem StartsAsTable.frameCheck (frame : Bytes) :
    StartsAsTable.Statement (.frameCheck frame) := ⟨_, rfl⟩
theorem StartsAsTable.parseResponse (frame : Bytes) (awaitingWrite : Bool) (expectedAddress : Option U16) (declaredType : DType) :
    StartsAsTable.Statement (.parseResponse frame awaitingWrite expectedAddress declaredType) := ⟨_, rfl⟩
theorem StartsAsTable.parseReport (payload : Bytes) :
    StartsAsTable.Statement (.parseReport payload) := ⟨_, rfl⟩
theorem StartsAsTable.buildRead (address : U16) :
    StartsAsTable.Statement (.buildRead address) := ⟨_, rfl⟩
theorem StartsAsTable.buildWrite (address : U16) (value : U32) (type : DType) :
    StartsAsTable.Statement (.buildWrite address value type) := ⟨_, rfl⟩
theorem StartsAsTable.buildHandshake :
    StartsAsTable.Statement .buildHandshake := ⟨_, rfl⟩
theorem StartsAsTable.buildStatusReply (functionCode : Byte) (statusCode : Byte) :
    StartsAsTable.Statement (.buildStatusReply functionCode statusCode) := ⟨_, rfl⟩
theorem StartsAsTable.buildUpgradePacket (packetIndex : U16) (chunk : Bytes) :
    StartsAsTable.Statement (.buildUpgradePacket packetIndex chunk) := ⟨_, rfl⟩
theorem StartsAsTable.buildUpgradePackets (image : Bytes) :
    StartsAsTable.Statement (.buildUpgradePackets image) := ⟨_, rfl⟩
theorem StartsAsTable.buildUpgradeCrc (image : Bytes) (packetCount : U16) :
    StartsAsTable.Statement (.buildUpgradeCrc image packetCount) := ⟨_, rfl⟩
theorem StartsAsTable.issueRead (address : U16) (declaredType : DType) (timeout : U32) :
    StartsAsTable.Statement (.issueRead address declaredType timeout) := ⟨_, rfl⟩
theorem StartsAsTable.issueWrite (address : U16) (value : U32) (declaredType : DType) (timeout : U32) :
    StartsAsTable.Statement (.issueWrite address value declaredType timeout) := ⟨_, rfl⟩
theorem StartsAsTable.issueUpgradeData (packetIndex : U16) (chunk : Bytes) (timeout : U32) :
    StartsAsTable.Statement (.issueUpgradeData packetIndex chunk timeout) := ⟨_, rfl⟩
theorem StartsAsTable.issueUpgradeCrc (imageCrc : U16) (packetCount : U16) (timeout : U32) :
    StartsAsTable.Statement (.issueUpgradeCrc imageCrc packetCount timeout) := ⟨_, rfl⟩
theorem StartsAsTable.send (function : Byte) (payload : Bytes) :
    StartsAsTable.Statement (.send function payload) := ⟨_, rfl⟩
theorem StartsAsTable.rxPush (b : Byte) :
    StartsAsTable.Statement (.rxPush b) := ⟨_, rfl⟩
theorem StartsAsTable.tick :
    StartsAsTable.Statement .tick := ⟨_, rfl⟩
theorem StartsAsTable.reset :
    StartsAsTable.Statement .reset := ⟨_, rfl⟩

end Sys2Proof.Laws
end

