-- ==== Sys2Proof/Laws/System.lean ====
section
/-! SUPPORT. The block with its agents: one lemma per field for what is handed to the ports, and what the agents' reactions to a
step can do, said once. -/

namespace Sys2Proof.Machine

variable (y : System) (ps : List Placed)

/-! ### System.place and System.answer -/

@[simp] theorem System.place_agents : (y.place ps).agents = y.agents := rfl
@[simp] theorem System.place_issuers : (y.place ps).issuers = y.issuers ++ ps.map (·.1) := rfl
@[simp] theorem System.place_block :
    (y.place ps).block = { y.block with inbox := y.block.inbox ++ ps.map fun p => encode p.2 } := rfl
@[simp] theorem System.answer_agents : (y.answer ps).agents = y.agents := rfl
@[simp] theorem System.answer_issuers : (y.answer ps).issuers = ps.map (·.1) ++ y.issuers := rfl
@[simp] theorem System.answer_block :
    (y.answer ps).block = { y.block with inbox := (ps.map fun p => encode p.2) ++ y.block.inbox } := rfl

/-- Nothing to hand over changes nothing. -/
@[simp] theorem System.place_nil : y.place [] = y := by simp [System.place]

/-! ### The ports under an instruction -/

/-- An `ISSUE` leaves the ports alone. -/
theorem issue_inbox {request : Request} {frame : Bytes} {timeout : Nat} {s t : State}
    (h : issue request frame timeout s = .next t) : t.inbox = s.inbox := by
  obtain ⟨_, rfl⟩ | ⟨_, _, rfl⟩ | ⟨_, _, _, _, rfl⟩ := issue_cases h <;> rfl

/-- No instruction touches the ports. -/
theorem exec_inbox {i : Instr} {s t : State} (h : exec i s = .next t) : t.inbox = s.inbox := by
  by_cases hf : isFrame i = true
  · rw [exec_frame hf] at h
    cases h
    obtain ⟨_, _, _, _, ht⟩ := dispatch_touched (encode i) s
    rw [ht]
  · cases i
    case issueRead | issueWrite | issueUpgradeCrc => exact issue_inbox h
    case issueUpgradeData k chunk timeout =>
      simp only [exec, execIssueUpgradeData] at h
      split at h
      · exact issue_inbox h
      · cases h
        rfl
    case rxPush b =>
      rw [exec_rxPush] at h
      obtain ⟨_, ⟨_, _, _, _, rfl⟩, ht⟩ := runActions_touched (runPass (s.rxbuf ++ [b])).1 (s.pushByte b)
      rw [next_eq h, ht]
      rfl
    case tick =>
      rw [exec_tick] at h
      cases h
      obtain ⟨_, _, ht⟩ := tickEntries_frame s.pend s.advance
      simp [ht]
    case encode | buildUpgradePacket | buildUpgradePackets | send | parseReport =>
      simp only [exec, execEncode, execBuildUpgradePacket, execBuildUpgradePackets, execSend, execParseReport] at h
      split at h <;> cases h <;> rfl
    all_goals first | (cases h; rfl) | exact absurd rfl hf

/-- Where the ports are not quiet, a step leaves the transactions behind the oldest, with it behind them if it is held. -/
theorem step_inbox {s s' : State} {t : Bytes} {rest : List Bytes} (hi : s.inbox = t :: rest) (h : step s = .next s') :
    s'.inbox = if s'.reply = .held then rest ++ [t] else rest := by
  obtain ⟨hn, _⟩ | ⟨t', rest', hi', hc⟩ := step_cases h
  · rw [hn] at hi
    cases hi
  · rw [hi] at hi'
    cases hi'
    obtain ⟨_, rfl⟩ | ⟨i, _, hp⟩ := hc
    · rfl
    · obtain ⟨u, hu, ⟨hr, rfl⟩ | ⟨hr, rfl⟩⟩ := presentAgain_next hp
      · simp [hr, exec_inbox hu]
      · simp [hr, exec_inbox hu]

/-! ### The agents' reactions -/

/-- A calling thread that is not the issuer is not concerned by what its issuer is told. -/
theorem toIssuer_callers {a : Agents} {who : Issuer} {k : Nat} (h : who ≠ .caller k) (f : Caller → Caller)
    (g : Upgrade → Upgrade) : (a.toIssuer who f g).callers[k]? = a.callers[k]? := by
  cases who with
  | caller j =>
    have hj : j ≠ k := fun hc => h (by rw [hc])
    simp [Agents.toIssuer, hj]
  | upgrade => rfl
  | build => rfl
  | other => rfl

/-- A `Return` is told to its issuer alone. -/
theorem onReturn_callers {who : Issuer} {k : Nat} (h : who ≠ .caller k) (a : Agents) (v : RetVal) :
    (a.onReturn who v).1.callers[k]? = a.callers[k]? := by
  cases who with
  | caller j => exact toIssuer_callers h (·.onReturn v) id
  | upgrade => rfl
  | build => rfl
  | other => rfl

/-- R202: of the events of a step, another's calling thread takes the completions alone. -/
theorem onEvent_callers {who : Issuer} {k : Nat} (h : who ≠ .caller k) (a : Agents) (e : Event) :
    (a.onEvent who e).1.callers[k]? =
      match e with
      | .completion id r => (a.callers[k]?).map (Caller.onCompletion id r)
      | _ => a.callers[k]? := by
  cases e with
  | completion id r => simp [Agents.onEvent, Agents.onCompletion]
  | issueAck id => exact toIssuer_callers h _ _
  | ret v => exact onReturn_callers h a v
  | tx _ => rfl
  | discard _ _ => rfl
  | hsOffer _ _ => rfl
  | report _ _ => rfl

/-- What became of a transaction concerns its issuer alone. -/
theorem onReply_callers {who : Issuer} {k : Nat} (h : who ≠ .caller k) (a : Agents) (reply : Reply) :
    (a.onReply who reply).callers[k]? = a.callers[k]? := by
  cases reply with
  | accepted => exact toIssuer_callers h _ _
  | refused => exact toIssuer_callers h _ _
  | held => rfl
  | none => rfl

/-- An input that is no reset does not concern the calling threads. -/
theorem onInput_callers {i : Option Instr} (h : i ≠ some .reset) (a : Agents) : (a.onInput i).1.callers = a.callers := by
  rw [Agents.onInput, if_neg h]
  split <;> rfl

/-- R300: after a reset no calling thread waits. -/
theorem onReset_callers (a : Agents) : ∀ c ∈ a.onReset.callers, ∀ id, c.phase ≠ .waiting id := by
  intro c hc id hw
  obtain ⟨d, _, rfl⟩ := List.mem_map.1 hc
  unfold Caller.onReset at hw
  split at hw <;> simp_all

/-- R300: after a reset the orchestrator waits for nothing. -/
theorem onReset_upgrade (u : Upgrade) : u.onReset.waiting = none := by
  unfold Upgrade.onReset
  split
  · assumption
  · rfl

/-- R231: an upgrade that begins fails at once, with nothing to send, or asks for the CRC of its image. -/
theorem Upgrade.begin_cases (u : Upgrade) :
    (u.image.length % 2048 ≠ 0 ∧ u.begin = u.finish (.failed .sizeError)) ∨
    (u.image.length % 2048 = 0 ∧ 65535 < u.total ∧ u.begin = u.finish (.failed .tooManyPackets)) ∨
    (u.image.length % 2048 = 0 ∧ u.total ≤ 65535 ∧ u.begin = u.askCrc) := by
  unfold Upgrade.begin
  split
  · exact .inl ⟨‹_›, rfl⟩
  · split
    · exact .inr (.inl ⟨Decidable.not_not.1 ‹¬ u.image.length % _ ≠ 0›, ‹_›, rfl⟩)
    · exact .inr (.inr ⟨Decidable.not_not.1 ‹¬ u.image.length % _ ≠ 0›, Nat.le_of_not_lt ‹_›, rfl⟩)

/-- The events of a step are taken one after another. -/
theorem onEvents_append (who : Issuer) (es fs : List Event) (a : Agents) :
    (a.onEvents who (es ++ fs)).1 = ((a.onEvents who es).1.onEvents who fs).1 := by
  induction es generalizing a with
  | nil => rfl
  | cons e es ih => exact ih _

/-- What a step of the whole can do: nothing with quiet ports, or the agents react to the block's step. -/
theorem System.step_cases {y z : System} (h : y.step = .next z) :
    (y.block.inbox = [] ∧ z = y) ∨
    (y.block.inbox ≠ [] ∧ ∃ s', Machine.step y.block = .next s' ∧ z = y.react s') := by
  unfold System.step at h
  split at h
  · cases h
    exact .inl ⟨‹_›, rfl⟩
  · rename_i hi
    split at h <;> cases h
    exact .inr ⟨by simp [hi], _, ‹_›, rfl⟩

end Sys2Proof.Machine
end

