-- ==== Sys2Proof/Tests/Slice0.lean ====
section
/-! SUPPORT. Small tests. The expected values are those of spec/95_test_vectors.md (named V-…, P…, or by its table), or worked out by
hand from the rule cited; witnesses show that the hypotheses of each statement can be met. -/

namespace Sys2Proof.Tests

set_option Elab.async false

open Sys2Proof.Machine

/-! ### Helpers -/

/-- A state at rest with a table and a buffer; the mode tag, a free value, is set to 0 as in 95_test_vectors.md. -/
def stateWith (pend : List Entry) (rxbuf : Bytes) : State :=
  { State.reset with pend := pend, rxbuf := rxbuf, params := { Params.default with upgradeModeTag := 0#16 } }

/-- A state at rest with nothing in it. -/
def idle : State := stateWith [] []

/-- The state with one transaction at its ports. -/
def portHolds (s : State) (t : Bytes) : State := { s with inbox := [t] }

/-- The state with an answer of the oracle. -/
def verdictIs (s : State) (v : Bool) : State := { s with verdicts := [v] }

/-- The state after an outcome. -/
def after (s : State) : StepOutcome → State
  | .next t => t
  | .fault _ => s
  | .refused _ => s

/-- The events an outcome added. -/
def told (s : State) (o : StepOutcome) : List Event := (after s o).events.drop s.events.length

/-- One step on a transaction: its events. -/
def stepEvents (s : State) (t : Bytes) : List Event := told s (step (portHolds s t))

/-- One instruction: its events. -/
def execEvents (s : State) (i : Instr) : List Event := told s (exec i s)

/-- A live read of 0x1200 as int8, the entry of most vectors. -/
def aRead : Entry := { id := 0, request := .read 0x1200 .int8, creationTime := 0, timeout := 100 }

/-- A live write of 0x1200. -/
def aWrite : Entry := { id := 1, request := .write 0x1200 .uint8, creationTime := 0, timeout := 100 }

/-! ### WellFormed refuses what fits no field -/

/-- A byte string of zeros of a given length. -/
def zeros (n : Nat) : Bytes := List.replicate n 0#8

theorem zeros_length (n : Nat) : (zeros n).length = n := List.length_replicate

theorem test_payload_too_long : payloadFits (zeros 65536) = false :=
  Bool.eq_false_iff.2 fun h => absurd ((payloadFits_iff _).1 h) (by rw [zeros_length]; decide)
theorem test_chunk_too_long : chunkFits (zeros 2049) = false :=
  Bool.eq_false_iff.2 fun h => absurd ((chunkFits_iff _).1 h) (by rw [zeros_length]; decide)
theorem test_image_too_long : imageFits (zeros 134215681) = false :=
  Bool.eq_false_iff.2 fun h => absurd ((imageFits_iff _).1 h) (by rw [zeros_length]; decide)
theorem test_longest_payload_fits : payloadFits (zeros 65535) = true := (payloadFits_iff _).2 (by rw [zeros_length])
theorem test_longest_image_fits : imageFits (zeros 134215680) = true := (imageFits_iff _).2 (by rw [zeros_length])
theorem test_frames_refused : ∀ mk ∈ ([.read, .write, .upgradeData, .upgradeCrc, .connect, .mcuReset, .ackWithData, .ackNoData,
    .report40, .report50, .report60] : List (Bytes → U16 → Instr)), (mk (zeros 65536) 0).wellFormed = false := by
  simp [Instr.wellFormed, test_payload_too_long]
theorem test_encode_refused : (Instr.encode 0x11 (zeros 65536)).wellFormed = false := test_payload_too_long
theorem test_send_refused : (Instr.send 0x11 (zeros 65536)).wellFormed = false := test_payload_too_long
theorem test_packet_refused : (Instr.buildUpgradePacket 0 (zeros 2049)).wellFormed = false := test_chunk_too_long
theorem test_issue_packet_refused : (Instr.issueUpgradeData 0 (zeros 2049) 1).wellFormed = false := test_chunk_too_long
theorem test_image_refused : (Instr.buildUpgradePackets (zeros 134215681)).wellFormed = false := test_image_too_long

/-! ### Decoding: frames of 95_test_vectors.md section 2, written out by the layout of R80 -/

theorem test_decode_read : decodeFrame [0x5A, 0x10, 0x00, 0x02, 0x12, 0x00, 0xF7, 0xAD] = some (.read [0x12, 0x00] 0xF7AD) := by
  decide +kernel
theorem test_decode_write : decodeFrame [0x5A, 0x20, 0x00, 0x06, 0x12, 0x00, 0x00, 0x00, 0x00, 0xFF, 0x1A, 0x99] =
    some (.write [0x12, 0x00, 0x00, 0x00, 0x00, 0xFF] 0x1A99) := by decide +kernel
theorem test_decode_upgradeData : decodeFrame [0x5A, 0x30, 0x00, 0x01, 0x07, 0x12, 0x34] = some (.upgradeData [0x07] 0x1234) := by
  decide +kernel
theorem test_decode_upgradeCrc : decodeFrame [0x5A, 0x31, 0x00, 0x04, 0x24, 0x4D, 0x00, 0x02, 0x81, 0xCD] =
    some (.upgradeCrc [0x24, 0x4D, 0x00, 0x02] 0x81CD) := by decide +kernel
theorem test_decode_connect : decodeFrame [0x5A, 0xE0, 0x00, 0x00, 0x39, 0x61] = some (.connect [] 0x3961) := by decide +kernel
theorem test_decode_mcuReset : decodeFrame [0x5A, 0xF0, 0x00, 0x01, 0x01, 0xFE, 0xCD] = some (.mcuReset [0x01] 0xFECD) := by
  decide +kernel
theorem test_decode_ackWithData : decodeFrame [0x5A, 0x11, 0x00, 0x06, 0x12, 0x02, 0x00, 0x00, 0x00, 0x2A, 0xDA, 0xE3] =
    some (.ackWithData [0x12, 0x02, 0x00, 0x00, 0x00, 0x2A] 0xDAE3) := by decide +kernel
theorem test_decode_ackNoData : decodeFrame [0x5A, 0xF1, 0x00, 0x02, 0x20, 0xF3, 0xDA, 0x7B] = some (.ackNoData [0x20, 0xF3] 0xDA7B) := by
  decide +kernel
theorem test_decode_report40 : decodeFrame [0x5A, 0x40, 0x00, 0x00, 0x84, 0xFD] = some (.report40 [] 0x84FD) := by decide +kernel
theorem test_decode_report50 : decodeFrame [0x5A, 0x50, 0x00, 0x05, 0x12, 0x00, 0x00, 0x00, 0x00, 0x33, 0x71] =
    some (.report50 [0x12, 0x00, 0x00, 0x00, 0x00] 0x3371) := by decide +kernel
theorem test_decode_report60 : decodeFrame [0x5A, 0x60, 0x00, 0x00, 0x02, 0x3B] = some (.report60 [] 0x023B) := by decide +kernel
theorem test_decode_bad_function : decodeFrame [0x5A, 0x99, 0x00, 0x00, 0x7F, 0xF8] = none := by decide +kernel
theorem test_decode_bad_head : decodeFrame [0xA5, 0x60, 0x00, 0x00, 0x02, 0x3B] = none := by decide +kernel
theorem test_decode_bad_length : decodeFrame [0x5A, 0x60, 0x00, 0x01, 0x02, 0x3B] = none := by decide +kernel

/-! ### Decoding: transactions (selectors of R105, type codes of R106, layout of log entry 9) -/

theorem test_decode_crc16 : decodeCommand [0x01, 0x5A, 0xE0] = some (.crc16 [0x5A, 0xE0]) := by decide +kernel
theorem test_decode_pack : decodeCommand [0x02, 0x12, 0x34, 0x56, 0x78, 0x02] = some (.pack 0x12345678 .int16) := by decide +kernel
theorem test_decode_unpack : decodeCommand [0x03, 0x12, 0x34, 0x56, 0x78, 0x06] = some (.unpack 0x12345678 .float32) := by decide +kernel
theorem test_decode_encode : decodeCommand [0x04, 0xF1, 0x20, 0x00] = some (.encode 0xF1 [0x20, 0x00]) := by decide +kernel
theorem test_decode_frameCheck : decodeCommand [0x05, 0xFF, 0xFF] = some (.frameCheck [0xFF, 0xFF]) := by decide +kernel
theorem test_decode_parseResponse : decodeCommand [0x06, 0x01, 0x01, 0x12, 0x00, 0x00, 0x5A] =
    some (.parseResponse [0x5A] true (some 0x1200) .int8) := by decide +kernel
theorem test_decode_parseResponse_absent : decodeCommand [0x06, 0x00, 0x00, 0x05, 0x5A, 0x11] =
    some (.parseResponse [0x5A, 0x11] false none .uint32) := by decide +kernel
theorem test_decode_parseReport : decodeCommand [0x07, 0x12] = some (.parseReport [0x12]) := by decide +kernel
theorem test_decode_buildRead : decodeCommand [0x10, 0x12, 0x34] = some (.buildRead 0x1234) := by decide +kernel
theorem test_decode_buildWrite : decodeCommand [0x11, 0x12, 0x34, 0xFF, 0x00, 0x00, 0x01, 0x04] =
    some (.buildWrite 0x1234 0xFF000001 .int32) := by decide +kernel
theorem test_decode_buildHandshake : decodeCommand [0x12] = some .buildHandshake := by decide +kernel
theorem test_decode_buildStatusReply : decodeCommand [0x13, 0xF0, 0xF1] = some (.buildStatusReply 0xF0 0xF1) := by decide +kernel
theorem test_decode_buildUpgradePacket : decodeCommand [0x14, 0x00, 0x07, 0xAB] = some (.buildUpgradePacket 7 [0xAB]) := by
  decide +kernel
theorem test_decode_buildUpgradePackets : decodeCommand [0x15, 0xAB, 0xCD] = some (.buildUpgradePackets [0xAB, 0xCD]) := by
  decide +kernel
theorem test_decode_buildUpgradeCrc : decodeCommand [0x16, 0x00, 0x02, 0xAB] = some (.buildUpgradeCrc [0xAB] 2) := by decide +kernel
theorem test_decode_issueRead : decodeCommand [0x20, 0x12, 0x00, 0x00, 0x00, 0x00, 0x00, 0x64] = some (.issueRead 0x1200 .int8 100) := by
  decide +kernel
theorem test_decode_issueWrite : decodeCommand [0x21, 0x12, 0x00, 0x00, 0x00, 0x01, 0x2C, 0x01, 0x00, 0x00, 0x00, 0x03] =
    some (.issueWrite 0x1200 300 .uint8 3) := by decide +kernel
theorem test_decode_issueUpgradeData : decodeCommand [0x22, 0x00, 0x01, 0x00, 0x00, 0x00, 0x32, 0xAB] =
    some (.issueUpgradeData 1 [0xAB] 50) := by decide +kernel
theorem test_decode_issueUpgradeCrc : decodeCommand [0x23, 0x24, 0x4D, 0x00, 0x02, 0x00, 0x00, 0x03, 0xE8] =
    some (.issueUpgradeCrc 0x244D 2 1000) := by decide +kernel
theorem test_decode_send : decodeCommand [0x24, 0xF0, 0x01] = some (.send 0xF0 [0x01]) := by decide +kernel
theorem test_decode_rxPush : decodeCommand [0x30, 0xAD] = some (.rxPush 0xAD) := by decide +kernel
theorem test_decode_tick : decodeCommand [0x31] = some .tick := by decide +kernel
theorem test_decode_reset : decodeCommand [0x3F] = some .reset := by decide +kernel
theorem test_decode_type_7_refused : decodeCommand [0x02, 0x00, 0x00, 0x00, 0x00, 0x07] = none := by decide +kernel
theorem test_decode_missing_operand : decodeCommand [0x10, 0x12] = none := by decide +kernel
theorem test_table_words : decodeTableWord 32 0x5A100000 = some (.read [] 0) ∧ decodeTableWord 32 0x5AF10001 = some (.ackNoData [0] 0) ∧
    decodeTableWord 8 0x20 = some (.issueRead 0 .int8 0) ∧ decodeTableWord 8 0x3F = some .reset ∧ decodeTableWord 8 0x5A = none := by
  decide +kernel

/-! ### The CRC (table "CRC16" of 95_test_vectors.md) and the other pure commands, one step each -/

theorem test_crc16_123456789 : stepEvents idle [0x01, 0x31, 0x32, 0x33, 0x34, 0x35, 0x36, 0x37, 0x38, 0x39] = [.ret (.u16 0x29B1)] := by
  decide +kernel
theorem test_crc16_empty : stepEvents idle [0x01] = [.ret (.u16 0xFFFF)] := by decide +kernel
theorem test_pack_int8_minus_128 : stepEvents idle [0x02, 0xFF, 0xFF, 0xFF, 0x80, 0x00] = [.ret (.bytes [0x00, 0x00, 0x00, 0x80])] := by
  decide +kernel
theorem test_pack_uint8_300 : stepEvents idle [0x02, 0x00, 0x00, 0x01, 0x2C, 0x01] = [.ret (.bytes [0x00, 0x00, 0x00, 0x2C])] := by
  decide +kernel
theorem test_unpack_int16 : stepEvents idle [0x03, 0xFF, 0xFF, 0x80, 0x00, 0x02] = [.ret (.value (-32768))] := by decide +kernel
theorem test_unpack_uint16 : stepEvents idle [0x03, 0x00, 0x01, 0xFF, 0xFF, 0x03] = [.ret (.value 65535)] := by decide +kernel
theorem test_encode_mcuReset : stepEvents idle [0x04, 0xF0, 0x01] =
    [.ret (.frame [0x5A, 0xF0, 0x00, 0x01, 0x01, 0xFE, 0xCD])] := by decide +kernel
theorem test_frameCheck_good : stepEvents idle [0x05, 0x5A, 0x10, 0x00, 0x02, 0x12, 0x00, 0xF7, 0xAD] = [.ret (.bool true)] := by
  decide +kernel
theorem test_frameCheck_little_endian : stepEvents idle [0x05, 0x5A, 0x10, 0x00, 0x02, 0x12, 0x00, 0xAD, 0xF7] = [.ret (.bool false)] := by
  decide +kernel
theorem test_parseResponse_data : execEvents idle (.parseResponse
      [0x5A, 0x11, 0x00, 0x06, 0x12, 0x01, 0x00, 0x00, 0x80, 0x00, 0xAA, 0x81] false (some 0x1201) .int16) =
    [.ret (.result (.readSuccess 0x1201 (-32768)))] := by decide +kernel
theorem test_parseResponse_status : execEvents idle (.parseResponse
      [0x5A, 0xF1, 0x00, 0x02, 0x20, 0x00, 0x05, 0x07] false none .int8) =
    [.ret (.result (.error (.deviceError 0x20 0x00)))] := by decide +kernel
theorem test_parseReport_two : execEvents idle (.parseReport
      [0x12, 0x00, 0x00, 0x00, 0x00, 0x2A, 0x12, 0x01, 0xFF, 0xFF, 0xFF, 0xFF]) =
    [.ret (.records [(0x1200, 0x0000002A), (0x1201, 0xFFFFFFFF)])] := by decide +kernel
theorem test_parseReport_malformed : execEvents idle (.parseReport [0x12, 0x00, 0x00, 0x00, 0x00]) = [.ret (.error .malformed)] := by
  decide +kernel
theorem test_buildRead : stepEvents idle [0x10, 0x12, 0x00] = [.ret (.frame [0x5A, 0x10, 0x00, 0x02, 0x12, 0x00, 0xF7, 0xAD])] := by
  decide +kernel
theorem test_buildWrite : execEvents idle (.buildWrite 0x0102 0xFFFFFFFE .int32) =
    [.ret (.frame [0x5A, 0x20, 0x00, 0x06, 0x01, 0x02, 0xFF, 0xFF, 0xFF, 0xFE, 0x1D, 0x60])] := by decide +kernel
theorem test_buildHandshake : stepEvents idle [0x12] = [.ret (.frame [0x5A, 0xE0, 0x00, 0x00, 0x39, 0x61])] := by decide +kernel
theorem test_buildStatusReply : stepEvents idle [0x13, 0xF0, 0xF1] =
    [.ret (.frame [0x5A, 0xF1, 0x00, 0x02, 0xF0, 0xF1, 0xEF, 0x1E])] := by decide +kernel
theorem test_buildUpgradePacket_padded : (packetFrame idle.params 0 (List.replicate 100 0#8)).drop 2056 = [0x70, 0x37] := by
  decide +kernel
theorem test_buildUpgradePackets_empty : execEvents idle (.buildUpgradePackets []) = [.ret (.frames [])] := by decide +kernel
theorem test_buildUpgradeCrc_empty : execEvents idle (.buildUpgradeCrc [] 0) =
    [.ret (.frame [0x5A, 0x31, 0x00, 0x04, 0xFF, 0xFF, 0x00, 0x00, 0x87, 0x0C])] := by decide +kernel

/-! ### The frame types (V-R1, V-R8 to V-R15, V-C1, V-C7) -/

theorem test_read_dropped : execEvents idle (.read [0x12, 0x00] 0xF7AD) = [.discard .unknownResponseType 8] := by decide +kernel
theorem test_write_dropped : execEvents idle (.write [0x12, 0x00, 0x00, 0x00, 0x00, 0xFF] 0x1A99) = [.discard .unknownResponseType 12] := by
  decide +kernel
theorem test_upgradeData_damaged : execEvents idle (.upgradeData [0x00] 0x0000) = [.discard .crcMismatch 7] := by decide +kernel
theorem test_upgradeCrc_dropped : execEvents idle (.upgradeCrc [0xFF, 0xFF, 0x00, 0x00] 0x870C) = [.discard .unknownResponseType 10] := by
  decide +kernel
theorem test_connect_consumed : execEvents (verdictIs idle true) (.connect [] 0x3961) =
    [.hsOffer [0x5A, 0xE0, 0x00, 0x00, 0x39, 0x61] true] := by decide +kernel
theorem test_connect_declined : execEvents (verdictIs idle false) (.connect [] 0x3961) =
    [.hsOffer [0x5A, 0xE0, 0x00, 0x00, 0x39, 0x61] true, .discard .unknownResponseType 6] := by decide +kernel
theorem test_mcuReset_damaged_declined : execEvents (verdictIs idle false) (.mcuReset [] 0x7AFD) =
    [.hsOffer [0x5A, 0xF0, 0x00, 0x00, 0x7A, 0xFD] false, .discard .crcMismatch 6] := by decide +kernel
theorem test_ackWithData_completes : execEvents (stateWith [aRead] []) (.ackWithData [0x12, 0x00, 0x00, 0x00, 0x00, 0xFF] 0x05B8) =
    [.completion 0 (.readSuccess 0x1200 (-1))] := by decide +kernel
theorem test_ackWithData_bad_length : execEvents (stateWith [aRead] []) (.ackWithData [0x12, 0x00, 0x00, 0x01] 0x8BD4) =
    [.completion 0 (.error .badLength)] := by decide +kernel
theorem test_ackNoData_refuses_write : execEvents (stateWith [aRead, aWrite] []) (.ackNoData [0x20, 0xF3] 0xDA7B) =
    [.completion 1 (.error (.deviceError 0x20 0xF3))] := by decide +kernel
theorem test_ackNoData_unmatched : execEvents (stateWith [aRead] []) (.ackNoData [0x10, 0xF2] 0xCFCF) = [.discard .unmatched 8] := by
  decide +kernel
theorem test_report40 : execEvents idle (.report40 [0x12, 0x00, 0x00, 0x00, 0x00, 0x2A, 0x12, 0x01, 0xFF, 0xFF, 0xFF, 0xFF] 0xBE62) =
    [.report 0x40 [(0x1200, 0x0000002A), (0x1201, 0xFFFFFFFF)]] := by decide +kernel
theorem test_report50_malformed : execEvents idle (.report50 [0x12, 0x00, 0x00, 0x00, 0x00] 0x3371) = [.discard .malformed 11] := by
  decide +kernel
theorem test_report60_empty : execEvents idle (.report60 [] 0x023B) = [.report 0x60 []] := by decide +kernel

/-! ### The reassembler (V-R1 to V-R7) -/

theorem test_rxPush_cuts_last_byte : stepEvents (stateWith [] [0x5A, 0x60, 0x00, 0x00, 0x02]) [0x30, 0x3B] = [.report 0x60 []] := by
  decide +kernel
theorem test_rxPush_before_head : stepEvents (stateWith [] [0x01, 0x02, 0x03, 0x5A, 0x60]) [0x30, 0x00] = [.discard .beforeHead 3] := by
  decide +kernel
theorem test_pass_no_head : runPass [0x01, 0x02, 0x03, 0x04, 0x05, 0x06] = ([.drop .noHead 6], []) := by decide +kernel
theorem test_pass_stray_head : runPass [0x5A, 0x5A, 0x60, 0x00, 0x00, 0x02] = ([.drop .badFunction 1], [0x5A, 0x60, 0x00, 0x00, 0x02]) := by
  decide +kernel

/-! ### The correlator (V-C1, V-C2, V-C13, V-C15, V-C16, P5) -/

theorem test_issueRead : stepEvents idle [0x20, 0x12, 0x00, 0x00, 0x00, 0x00, 0x00, 0x64] =
    [.tx [0x5A, 0x10, 0x00, 0x02, 0x12, 0x00, 0xF7, 0xAD], .issueAck 0] := by decide +kernel
theorem test_issueRead_entry : (after idle (exec (.issueRead 0x1200 .int8 100) idle)).pend = [aRead] := by decide +kernel
theorem test_issueWrite : execEvents idle (.issueWrite 0x1200 300 .uint8 100) =
    [.tx [0x5A, 0x20, 0x00, 0x06, 0x12, 0x00, 0x00, 0x00, 0x00, 0x2C, 0xE1, 0x87], .issueAck 0] := by decide +kernel
theorem test_issueUpgradeData_entry : (after idle (exec (.issueUpgradeData 1 [] 50) idle)).pend =
    [{ id := 0, request := .upgradeData 1, creationTime := 0, timeout := 50 }] := by decide +kernel
theorem test_issueUpgradeCrc : execEvents idle (.issueUpgradeCrc 0x244D 2 1000) =
    [.tx [0x5A, 0x31, 0x00, 0x04, 0x24, 0x4D, 0x00, 0x02, 0x81, 0xCD], .issueAck 0] := by decide +kernel
theorem test_id_wrap : allocId { stateWith [aRead, { aRead with id := 2 }, { aRead with id := 3 }] [] with
    params := { idle.params with idW := 2 } } = some 1 := by decide +kernel
theorem test_send : stepEvents idle [0x24, 0xE0] = [.tx [0x5A, 0xE0, 0x00, 0x00, 0x39, 0x61]] := by decide +kernel
theorem test_tick_expires : stepEvents { stateWith [{ aRead with timeout := 3 }] [] with now := 2 } [0x31] =
    [.completion 0 (.error .timeout)] := by decide +kernel
theorem test_tick_wraps : (after idle (exec .tick { idle with now := 0xFFFFFFFF })).now = 0 := by decide +kernel
theorem test_reset : (after idle (exec .reset { stateWith [aRead] [0x5A, 0x11] with nextId := 1, now := 7 })).pend = [] ∧
    (after idle (exec .reset { stateWith [aRead] [0x5A, 0x11] with nextId := 1, now := 7 })).rxbuf = [] ∧
    execEvents (stateWith [aRead] [0x5A, 0x11]) .reset = [] := by decide +kernel
theorem test_hold : (after idle (exec (.issueRead 0x1202 .int8 100)
    { stateWith [aRead] [] with params := { idle.params with nPending := some 1 } })).reply = .held := by decide +kernel
theorem test_withFetchWord_command : stepEvents (State.reset.withFetchWord 8 0x31) [] = [] ∧
    (after State.reset (step (State.reset.withFetchWord 8 0x31))).now = 1 := by decide +kernel
theorem test_withFetchWord_frame : told State.reset (step (State.reset.withFetchWord 32 0x5A100000)) = [.discard .crcMismatch 6] := by
  decide +kernel

/-! ### The agents (R222 to R227, P3, P4) -/

theorem test_connect_echo : ((Agents.start false 5 1 50 1000 []).handshake.connect.1.onOffer [0x5A, 0xE0, 0x00, 0x00, 0x39, 0x61] true).1.conn =
    .connected := by decide +kernel
theorem test_upgrade_aborts : (((startedWith (Agents.start false 5 1 50 1000 []).upgrade (List.replicate 2048 0#8) 0xC584).1.onAck
    0).onCompletion 0 (.error (.deviceError 0x30 0xF4))).1.phase = .failed (.deviceError 0x30 0xF4) := by decide +kernel

/-! ### Witnesses: the hypotheses of each statement, met

One theorem for each statement that has hypotheses, named after it; each clause at a boundary value of its range. -/

/-- The `READ(0x1200)` frame of V-K. -/
def readFrame : Bytes := [0x5A, 0x10, 0x00, 0x02, 0x12, 0x00, 0xF7, 0xAD]

/-- The echoed `MCU_RESET` of P4. -/
def resetFrame : Bytes := [0x5A, 0xF0, 0x00, 0x01, 0x01, 0xFE, 0xCD]

/-- The answer to a read of 0x1200 (95_test_vectors.md). -/
def dataFrame : Bytes := [0x5A, 0x11, 0x00, 0x06, 0x12, 0x00, 0x00, 0x00, 0x00, 0xFF, 0x05, 0xB8]

/-- The parameters with ids of no bits. -/
def oneId : State := { stateWith [aRead] [] with params := { idle.params with idW := 0 } }

/-- The parameters with a table of one place, taken. -/
def oneTaken : State := { stateWith [aRead] [] with params := { idle.params with nPending := some 1 } }

/-- The parameters with ticks of three bits. -/
def threeBits : State := { idle with params := { idle.params with timeW := 3 } }

theorem witness_DecodeEncodeAgree : (Instr.read [0x12, 0x00] 0xF7AD).wellFormed = true ∧
    (Instr.send 0xF0 (zeros 65535)).wellFormed = true := ⟨by decide, test_longest_payload_fits⟩

theorem witness_DecodedBytesReencode : (∃ i, decodeFrame readFrame = some i) ∧
    (∃ i, decodeCommand [0x13, 0xF0, 0xF1] = some i) := ⟨⟨_, test_decode_read⟩, ⟨_, test_decode_buildStatusReply⟩⟩

theorem witness_UnknownSelectorRefused : (portHolds idle [0x08, 0x00]).inbox = (0x08 :: [0x00]) :: [] ∧
    (0x08 : Byte) ∉ ([0x01, 0x02, 0x03, 0x04, 0x05, 0x06, 0x07, 0x10, 0x11, 0x12, 0x13, 0x14, 0x15, 0x16, 0x20, 0x21, 0x22, 0x23,
      0x24, 0x30, 0x31, 0x3F] : List Byte) := by decide

theorem witness_PackUnpackRoundTrip : InRange .int8 (-128) ∧ InRange .uint32 4294967295 ∧ typeSigned .int32 = true ∧
    typeSigned .float32 = false ∧ (0xFF : U32).toNat < 2 ^ typeBits .uint8 := by
  refine ⟨⟨?_, ?_⟩, ⟨?_, ?_⟩, ?_, ?_, ?_⟩ <;> decide

theorem witness_CrcProperties : (0 : Nat) < ([0x5A] : Bytes).length ∧ 7 < 8 := by decide

theorem witness_FrameCheckTestsTheCrc : ([0x5A] : Bytes).length < 2 ∧ 2 ≤ ([0xFF, 0xFF] : Bytes).length := by decide

theorem witness_EncodeBuildsTheFrame : (zeros 65535).length ≤ 65535 ∧ 65535 < (zeros 65536).length := by
  rw [zeros_length, zeros_length]; decide

theorem witness_EchoReproducesTheFrame : wellFramed resetFrame = true ∧ frameCheck idle.params.crcInit resetFrame = true := by
  decide +kernel

theorem witness_UpgradePacketIsPadded : (zeros 2048).length ≤ 2048 ∧ 2048 < (zeros 2049).length := by
  rw [zeros_length, zeros_length]; decide

theorem witness_UpgradePacketsCutTheImage : (zeros 134215680).length ≤ 2048 * 65535 ∧ 2048 * 65535 < (zeros 134215681).length := by
  rw [zeros_length, zeros_length]; decide

theorem witness_ParseReportReadsRecords : ([0x12] : Bytes).length % 6 ≠ 0 ∧ ([] : Bytes).length % 6 = 0 := by decide

theorem witness_ParseResponseTestsInOrder_short : ([0x5A] : Bytes).length < 2 ∧
    (2 ≤ ([0x5A, 0x11] : Bytes).length ∧ frameCheck 0xFFFF [0x5A, 0x11] = false) ∧
    (2 ≤ ([0xFF, 0xFF] : Bytes).length ∧ frameCheck 0xFFFF [0xFF, 0xFF] = true ∧ ([0xFF, 0xFF] : Bytes).length < 6) := by
  decide +kernel

/-- The clauses of `ACK_WITH_DATA`: a payload of 6 bytes at the expected address and at another, and one of 4 bytes. -/
theorem witness_ParseResponseTestsInOrder_data : (frameCheck 0xFFFF dataFrame = true ∧ byteAt dataFrame 1 = 0x11 ∧
      dataFrame.length = 12 ∧ be16 (slice dataFrame 4 6) = 0x1200 ∧ (0x1200 : U16) ≠ 0x1201) ∧
    (frameCheck 0xFFFF [0x5A, 0x11, 0x00, 0x04, 0x12, 0x00, 0x00, 0x01, 0x8B, 0xD4] = true) := by decide +kernel

/-- The clauses of `ACK_NO_DATA`, and the last clause: statuses `OK` and `0xF3`, a payload of 1 byte, a `READ` frame. -/
theorem witness_ParseResponseTestsInOrder_status : frameCheck 0xFFFF [0x5A, 0xF1, 0x00, 0x02, 0x20, 0x00, 0x05, 0x07] = true ∧
    frameCheck 0xFFFF [0x5A, 0xF1, 0x00, 0x02, 0x20, 0xF3, 0xDA, 0x7B] = true ∧
    frameCheck 0xFFFF [0x5A, 0xF1, 0x00, 0x01, 0x20, 0xBC, 0x3A] = true ∧
    (frameCheck 0xFFFF readFrame = true ∧ byteAt readFrame 1 ≠ 0x11 ∧ byteAt readFrame 1 ≠ 0xF1) := by decide +kernel

theorem witness_PureCommandsChangeNothing : isPure (.crc16 []) = true ∧ isPure (.encode 0x11 (zeros 65536)) = true ∧
    idle.params.crcInit = 0xFFFF ∧ idle.params.upgradeModeTag = 0 := ⟨rfl, rfl, rfl, rfl⟩

theorem witness_PassFollowsItsSteps_no_frame : ([0x01, 0x02, 0x03, 0x04, 0x05] : Bytes).length < 6 ∧
    (6 ≤ ([0x01, 0x02, 0x03, 0x04, 0x05, 0x06] : Bytes).length ∧ 0x5A#8 ∉ ([0x01, 0x02, 0x03, 0x04, 0x05, 0x06] : Bytes)) ∧
    (0x5A#8 ∉ ([0x01] : Bytes) ∧ 6 ≤ ([0x01] ++ 0x5A#8 :: [0x60, 0x00, 0x00, 0x02] : Bytes).length ∧
      (0x5A#8 :: [0x60, 0x00, 0x00, 0x02] : Bytes).length < 6) := by decide

/-- Behind the head: no code and no later head; no code and a later head; a frame that waits for one byte; a whole frame. -/
theorem witness_PassFollowsItsSteps_at_head : (recognised (byteAt [0x5A, 0x99, 0x01, 0x02, 0x03, 0x04] 1) = false ∧
      0x5A#8 ∉ ([0x99, 0x01, 0x02, 0x03, 0x04] : Bytes)) ∧
    (recognised (byteAt [0x5A, 0x5A, 0x60, 0x00, 0x00, 0x02] 1) = false ∧ 0x5A#8 ∉ ([] : Bytes)) ∧
    (recognised (byteAt [0x5A, 0x60, 0x00, 0x01, 0x02, 0x03] 1) = true ∧
      6 < 6 + (be16 (slice [0x5A, 0x60, 0x00, 0x01, 0x02, 0x03] 2 4)).toNat) ∧
    (recognised (byteAt [0x5A, 0x60, 0x00, 0x00, 0x02, 0x3B] 1) = true ∧
      6 + (be16 (slice [0x5A, 0x60, 0x00, 0x00, 0x02, 0x3B] 2 4)).toNat ≤ 6) := by decide +kernel

theorem witness_PassEnds : trip [0x5A, 0x5A, 0x60, 0x00, 0x00, 0x02] = .again [.drop .badFunction 1] [0x5A, 0x60, 0x00, 0x00, 0x02] := by
  decide +kernel

/-- The garbage of V-R17: its second run ends in a head byte. -/
theorem witness_FramesThroughGarbage : Candidate dataFrame ∧ Candidate [0x5A, 0x60, 0x00, 0x00, 0x02, 0x3B] ∧
    Harmless [0x00, 0xFF, 0x13, 0x37] dataFrame ∧ Harmless [0xA5, 0x5B, 0x5A] [0x5A, 0x60, 0x00, 0x00, 0x02, 0x3B] ∧
    ([[0x00, 0xFF], [0x13, 0x37] ++ dataFrame ++ [0xA5], [0x5B, 0x5A, 0x5A, 0x60, 0x00, 0x00, 0x02, 0x3B]] : List Bytes).flatten =
      ([([0x00, 0xFF, 0x13, 0x37], dataFrame), ([0xA5, 0x5B, 0x5A], [0x5A, 0x60, 0x00, 0x00, 0x02, 0x3B])] : List (Bytes × Bytes)).flatMap
        (fun x => x.1 ++ x.2) ∧ 4 + dataFrame.length < 65541 := by
  unfold Candidate Harmless
  decide +kernel

theorem witness_OneFramePerByte : Waiting [0x5A, 0x60, 0x00, 0x00, 0x02] ∧ Waiting [0x5A, 0x60, 0x00, 0x01, 0x02, 0x03] :=
  ⟨.inl (by decide), .inr (by decide +kernel)⟩

theorem witness_RxPushRunsAPass : cutFrames (runPass ([0x01, 0x02, 0x03, 0x04, 0x05] ++ [0x06])).1 = [] := by decide +kernel

theorem witness_RxPushRunsTheFrame : ∃ i, decodeFrame ((stateWith [] [0x5A, 0x60, 0x00, 0x00, 0x02]).rxbuf ++ [0x3B]) = some i :=
  ⟨_, test_decode_report60⟩

theorem witness_HandshakeFramesAreOffered : (verdictIs idle true).verdict (encode (.connect [] 0x3961)) true = true ∧
    (verdictIs idle false).verdict (encode (.mcuReset [] 0x7AFD)) false = false := by decide

theorem witness_ReportsAreDelivered : frameCheck idle.params.crcInit (encode (.report60 [] 0x023B)) = true ∧
    (frameCheck idle.params.crcInit (encode (.report50 [0x12, 0x00, 0x00, 0x00, 0x00] 0x3371)) = true ∧ 5 % 6 ≠ 0) ∧
    frameCheck idle.params.crcInit (encode (.report40 [] 0x0000)) = false := by decide +kernel

theorem witness_MatchFollowsTheTable : aRead.request = .read 0x1200 .int8 ∧ aWrite.request = .write 0x1200 .uint8 := ⟨rfl, rfl⟩

theorem witness_AcknowledgementsCompleteTheOldestMatch : (frameCheck idle.params.crcInit (encode (.ackNoData [0x20, 0x00] 0x0507)) = true ∧
      (stateWith [aRead, aWrite] []).pend = [aRead] ++ aWrite :: [] ∧
      (∀ x ∈ [aRead], matchesFrame (encode (.ackNoData [0x20, 0x00] 0x0507)) x = false) ∧
      matchesFrame (encode (.ackNoData [0x20, 0x00] 0x0507)) aWrite = true) ∧
    (∀ x ∈ (stateWith [aRead] []).pend, matchesFrame (encode (.ackNoData [0x20, 0x00] 0x0507)) x = false) ∧
    frameCheck idle.params.crcInit (encode (.ackWithData [] 0x0000)) = false := by decide +kernel

theorem witness_CorrelatedResultsAreThese : frameCheck 0xFFFF (frameBytes 0x11 [0x12, 0x00, 0x00, 0x00, 0x00, 0xFF] 0x05B8) = true ∧
    matchesFrame (frameBytes 0x11 [0x12, 0x00, 0x00, 0x00, 0x00, 0xFF] 0x05B8) aRead = true ∧
    frameCheck 0xFFFF (frameBytes 0xF1 [0x20, 0x00] 0x0507) = true ∧ matchesFrame (frameBytes 0xF1 [0x20, 0x00] 0x0507) aWrite = true ∧
    awaitingWrite aWrite.request = true := by decide +kernel

/-- The table of V-C11 and its order of answers. -/
theorem witness_ConcurrentReadsGetTheirValues :
    let b : Entry := { aRead with id := 1, request := .read 0x1201 .int16 }
    let address : Entry → U16 := fun e => if e.id = 1 then 0x1201 else 0x1200
    let type : Entry → DType := fun e => if e.id = 1 then .int16 else .int8
    (∀ e ∈ (stateWith [aRead, b] []).pend, e.request = .read (address e) (type e)) ∧
    ((stateWith [aRead, b] []).pend.map address).Nodup ∧ [b, aRead].Perm (stateWith [aRead, b] []).pend :=
  ⟨by decide, by decide, .swap _ _ _⟩

theorem witness_RefusalsLeaveReadsPending : aRead ∈ (stateWith [aRead] []).pend ∧ aRead.request = .read 0x1200 .int8 ∧
    ∃ t, exec (.ackNoData [0x10, 0xF2] 0xCFCF) (stateWith [aRead] []) = .next t := ⟨by decide, rfl, _, rfl⟩

theorem witness_IssueRegistersAndSends : idle.params.nPending ≠ some idle.pend.length ∧ idle.pend.length < 2 ^ idle.params.idW ∧
    (7 : U32).toNat < 2 ^ threeBits.params.timeW ∧ threeBits.pend.length < 2 ^ threeBits.params.idW ∧
    threeBits.params.nPending ≠ some threeBits.pend.length := by decide +kernel

theorem witness_AllocIdTakesTheFirstFree : idle.nextId < 2 ^ idle.params.idW ∧ idle.pend.length < 2 ^ idle.params.idW ∧
    isIssue (.issueRead 0x1200 .int8 100) = true ∧ (after idle (exec (.issueRead 0x1200 .int8 100) idle)).reply = .accepted := by
  decide +kernel

theorem witness_FullTableHolds : oneTaken.params.nPending = some oneTaken.pend.length ∧ (100 : U32).toNat < 2 ^ oneTaken.params.timeW := by
  decide +kernel

theorem witness_OversizedOperandsAreRefused : 2048 < (zeros 2049).length ∧ 2 ^ threeBits.params.timeW ≤ (8 : U32).toNat := by
  rw [zeros_length]; decide +kernel

theorem witness_SendOnlyTransmits : (zeros 65535).length ≤ 65535 ∧ 65535 < (zeros 65536).length := by
  rw [zeros_length, zeros_length]; decide

theorem witness_EntryLivesForItsTimeout : idle.now < 2 ^ idle.params.timeW ∧ aRead ∈ (stateWith [aRead] []).pend ∧
    aRead.creationTime = idle.now ∧ aRead.timeout < 2 ^ idle.params.timeW ∧
    ∃ t, execAll (List.replicate 2 .tick) (stateWith [aRead] []) = .next t :=
  ⟨by decide +kernel, by decide, rfl, by decide +kernel, _, rfl⟩

theorem witness_OneCompletionPerIssue : Instr.tick ≠ .reset ∧ ∃ t, exec .tick (stateWith [aRead] []) = .next t := ⟨by decide, _, rfl⟩

/-- The invariants of R35 in a state with a partial frame and a live entry. -/
theorem witness_StepKeepsInvariants : Inv (stateWith [aRead] [0x5A, 0x11, 0x00]) ∧
    ∃ t, step (portHolds (stateWith [aRead] [0x5A, 0x11, 0x00]) [0x31]) = .next t where
  left :=
    { waiting := .inl (by decide)
      bounded := by decide
      idsDistinct := by decide
      withinCapacity := fun n h => by cases h
      alive := fun e he => by rw [List.mem_singleton.1 he]; exact .inl (by decide +kernel)
      nextIdFits := by decide +kernel
      nowFits := by decide +kernel
      fieldsFit := fun e he => by rw [List.mem_singleton.1 he]; exact ⟨by decide +kernel, by decide +kernel, by decide +kernel⟩ }
  right := ⟨_, rfl⟩

theorem witness_StepRunsTheDecodedInstruction : (portHolds idle [0x31]).inbox = [0x31] :: [] ∧ decodeCommand [0x31] = some .tick ∧
    Instr.tick.wellFormed = true ∧ ∃ u, exec .tick { portHolds idle [0x31] with inbox := [] } = .next u :=
  ⟨rfl, test_decode_tick, rfl, _, rfl⟩

/-- Both ways an `ISSUE_*` is held: a full table, and every id live. -/
theorem witness_TheBlockNeverHalts : idle.reply ≠ .held ∧ oneId.reply ≠ .held ∧ oneId.nextId < 2 ^ oneId.params.idW ∧
    (after idle (exec (.issueRead 0x1202 .int8 5) oneTaken)).reply = .held ∧
    (after idle (exec (.issueRead 0x1200 .int8 5) oneId)).reply = .held := by decide +kernel

theorem witness_IssueWithoutFreeIdHolds : oneId.params.nPending ≠ some oneId.pend.length ∧ (5 : U32).toNat < 2 ^ oneId.params.timeW ∧
    oneId.nextId < 2 ^ oneId.params.idW ∧ ∀ id, id < 2 ^ oneId.params.idW → id ∈ liveIds oneId.pend :=
  ⟨by decide, by decide +kernel, by decide, by decide⟩

theorem witness_ResetStateValues : ∃ t, exec .reset (stateWith [aRead] [0x5A]) = .next t := ⟨_, rfl⟩

theorem witness_StepsFixParametersAndAppendEvents : ∃ t, step (portHolds idle [0x12]) = .next t := ⟨_, rfl⟩

/-- Each element with an instruction that changes it. -/
theorem witness_ElementsHaveTheirWriters : (after idle (exec (.rxPush 0x5A) idle)).rxbuf ≠ idle.rxbuf ∧
    (after idle (exec (.issueRead 0x1200 .int8 5) idle)).nextId ≠ idle.nextId ∧
    (after idle (exec .tick idle)).now ≠ idle.now ∧
    (after idle (exec (.issueRead 0x1200 .int8 5) idle)).pend ≠ idle.pend := by decide +kernel

theorem witness_VerdictsChangeNoElement : SameElements (verdictIs idle true) (verdictIs idle false) ∧
    (∃ t, exec .tick (verdictIs idle true) = .next t) ∧ ∃ t, exec .tick (verdictIs idle false) = .next t :=
  ⟨⟨rfl, rfl, rfl, rfl, rfl⟩, ⟨_, rfl⟩, _, rfl⟩

/-- The block at reset with its agents at the start of a run, the policy on and one item known. -/
def atStart : System :=
  .start (.start true 5 1 50 1000 [{ address := 0x1200, declaredType := .int8, permission := 0 }])

/-- The system after some steps. -/
def runs : Nat → System → System
  | 0, y => y
  | n + 1, y =>
    match y.step with
    | .next z => runs n z
    | .fault _ => y
    | .refused _ => y

/-- The bytes that answer a read of 0x1200. -/
def readAnswer : Bytes := [0x5A, 0x11, 0x00, 0x06, 0x12, 0x00, 0x00, 0x00, 0x00, 0xFF, 0x05, 0xB8]

/-- A read is issued, and all of its answer but the last bytes has come: a thread waits for id 0. -/
def readWaits (n : Nat) : System := runs n ((atStart.read 0x1200 100).receive readAnswer)

/-- What the step after the first `n` tells. -/
def toldNext (n : Nat) : List Event := (runs 1 (readWaits n)).block.events.drop (readWaits n).block.events.length

theorem witness_UnalignedImageFailsAtOnce : atStart.agents.upgrade.underWay = false ∧ (zeros 2049).length % 2048 ≠ 0 ∧
    (zeros 134217728).length % 2048 = 0 ∧ 2048 * 65535 < (zeros 134217728).length ∧
    (atStart.upgrade (zeros 2048)).agents.upgrade.underWay = true := by
  rw [zeros_length, zeros_length]
  decide +kernel

/-- The step with the last byte but one tells nothing, the step with the last the completion. -/
theorem witness_CallerGetsItsOwnCompletion : (∀ n ∈ [11, 12],
      (∃ z, (readWaits n).step = .next z) ∧ nextInstr (readWaits n).block ≠ some .reset ∧
      (readWaits n).issuers.headD .other ≠ .caller 0 ∧
      (readWaits n).agents.callers[0]? = some { command := .issueRead 0x1200 .int8 100, phase := .waiting 0 }) ∧
    completionsOf 0 (toldNext 11) = 0 ∧ toldNext 12 = [] ++ .completion 0 (.readSuccess 0x1200 (-1)) :: [] := by
  refine ⟨fun n hn => ?_, by decide +kernel, by decide +kernel⟩
  obtain rfl | rfl := List.mem_pair.1 hn
  · exact ⟨⟨_, rfl⟩, by decide +kernel, by decide +kernel, by decide +kernel⟩
  · exact ⟨⟨_, rfl⟩, by decide +kernel, by decide +kernel, by decide +kernel⟩

theorem witness_ResetEndsTheRun : nextInstr (runs 1 (atStart.read 0x1200 100)).close.block = some .reset := by decide +kernel

theorem witness_TransactionsKeepTheirIssuers : (atStart.read 0x1200 100).issuers = [.caller 0] ∧
    (atStart.read 0x1200 100).block.inbox.length = 1 ∧ (∃ z, (atStart.read 0x1200 100).step = .next z) :=
  ⟨by decide +kernel, by decide +kernel, _, rfl⟩

theorem witness_DeviceResetIsAnswered : Candidate resetFrame ∧ byteAt resetFrame 1 = 0xF0 ∧
    frameCheck idle.params.crcInit resetFrame = true := by unfold Candidate; decide +kernel

/-- No packet, and the most that the u16 fields count. -/
theorem witness_AcknowledgedUpgradeSucceeds : atStart.agents.upgrade.underWay = false ∧ 0 < atStart.agents.upgrade.maxRetries ∧
    (zeros 0).length = 2048 * 0 ∧ (zeros 134215680).length = 2048 * 65535 ∧ 65535 ≤ 65535 := by
  rw [zeros_length, zeros_length]
  decide +kernel

/-- P4: the echo of a device reset goes out before the byte that waits behind the frame (R224). -/
theorem test_reset_echoed_at_once : (runs 8 ((atStart.verdict true).receive (resetFrame ++ [0x01]))).block.events =
    [.hsOffer resetFrame true, .tx resetFrame] := by decide +kernel

/-- P3, row 1, with 2048 zeros: the orchestrator has the block compute the image's CRC, keeps it, and sends packet 0. -/
theorem test_upgrade_asks_for_the_crc : (runs 1 (atStart.upgrade (zeros 2048))).block.events = [.ret (.u16 0xC584)] ∧
    (runs 1 (atStart.upgrade (zeros 2048))).agents.upgrade.phase = .packet 0xC584 0 0 1 ∧
    nextInstr (runs 1 (atStart.upgrade (zeros 2048))).block = some (.issueUpgradeData 0 (zeros 2048) 50) := by decide +kernel

/-- A calling thread reaches the command port only (R220). -/
theorem test_request_pushes_no_byte : atStart.request (.rxPush 0x5A) = atStart ∧ atStart.request .reset = atStart := ⟨rfl, rfl⟩

/-- An `IssueAck` of another's `ISSUE_UPGRADE_CRC` is not the orchestrator's (R202, R271). -/
theorem test_ack_goes_to_its_issuer : (runs 1 (atStart.request (.issueUpgradeCrc 1 2 3))).agents.upgrade.waiting = none ∧
    (runs 1 (atStart.request (.issueUpgradeCrc 1 2 3))).agents.callers.map (·.phase) = [.waiting 0] := by decide +kernel

end Sys2Proof.Tests
end

