-- ==== Sys2Proof/Proofs/Scope.lean ====
section
/-! SUPPORT. The statements of 00_scope.md: which byte strings are candidate frames (O4), and what a step runs (O49). -/

namespace Sys2Proof

/-! ### Candidate frames -/

theorem recognised_iff_frameType (fn : Byte) : recognised fn = true ↔ ∃ mk, frameType fn = some mk :=
  Option.isSome_iff_exists

/-- The converse of `decodeFrame_cases`. -/
theorem decodeFrame_of_wellFramed {f : Bytes} {mk : Bytes → U16 → Instr} (h : wellFramed f = true)
    (hm : frameType (byteAt f 1) = some mk) : decodeFrame f = some (mk (payloadOf f) (crcField f)) := by
  rw [decodeFrame, if_pos h, hm, Option.map_some]

/-- R18: `decodeFrame` answers for the well-framed byte strings with a recognised code, and for no others. -/
theorem decodeFrame_answers_iff (f : Bytes) :
    (∃ i, decodeFrame f = some i) ↔ wellFramed f = true ∧ recognised (byteAt f 1) = true := by
  rw [recognised_iff_frameType]
  constructor
  · rintro ⟨i, hi⟩
    obtain ⟨hw, mk, hm, _⟩ := decodeFrame_cases hi
    exact ⟨hw, mk, hm⟩
  · rintro ⟨hw, mk, hm⟩
    exact ⟨_, decodeFrame_of_wellFramed hw hm⟩

/-- Settles O4: R18's candidate frames, with R82 and R83 written out by `wellFramed_iff`. -/
theorem framesDecodeExactlyCandidates : Obligations.FramesDecodeExactlyCandidates := by
  intro f
  rw [decodeFrame_answers_iff, wellFramed_iff, and_assoc, and_assoc]

end Sys2Proof

namespace Sys2Proof.Machine

/-! ### The step -/

theorem fetch_cons {s : State} {t : Bytes} {rest : List Bytes} (h : s.inbox = t :: rest) :
    s.fetch = some (t, { s with inbox := rest }) := by
  rw [State.fetch, h]

/-- R204: only a held transaction is put back. -/
theorem presentAgain_of_next (t : Bytes) (u : State) :
    presentAgain t (.next u) = .next (if u.reply = .held then { u with inbox := u.inbox ++ [t] } else u) :=
  (apply_ite Host.Outcome.next _ _ _).symm

/-- R16, R30: with a transaction at the ports that decodes, the step is what its instruction does. -/
theorem step_of_decodes {s : State} {t : Bytes} {rest : List Bytes} {i : Instr} (hs : s.inbox = t :: rest)
    (hd : decodeCommand t = some i) : step s = presentAgain t (exec i { s with inbox := rest }) := by
  simp only [step, fetch_cons hs, hd]

/-- Settles O49. The step runs whatever decodes: well-formedness of the instruction is not used. -/
theorem stepRunsTheDecodedInstruction : Obligations.StepRunsTheDecodedInstruction := by
  intro s u t rest i hs hd _ he
  rw [step_of_decodes hs hd, he, presentAgain_of_next]

end Sys2Proof.Machine
end

/-! SUPPORT. The statements of 10_state.md: what a pass leaves (O23), who writes each state element (O52, O53, O54), and
the invariants between steps with the state after reset (O46, O47, O48, O59). -/

namespace Sys2Proof.Machine

/-! ### What a pass leaves -/

/-- What a trip over `n` bytes owes its pass: where it stops the rest waits (R35 item 1), where it goes on the rest is
shorter (R176). -/
def Trip.Progress (n : Nat) : Trip → Prop
  | .stop _ rest => Waiting rest
  | .again _ rest => rest.length < n

theorem waiting_of_short {buf : Bytes} (h : buf.length < 6) : Waiting buf := .inl h

/-- R166: behind an unknown function byte the pass goes on from a later head byte, or drops everything. -/
theorem tripBadFunction_progress (acts : List Action) (buf : Bytes) :
    (tripBadFunction acts buf).Progress buf.length := by
  unfold tripBadFunction
  split
  · exact waiting_of_short (by simp)
  · obtain ⟨h1, _, _⟩ := headFrom_some ‹_›
    simp only [Trip.Progress, List.length_drop]
    omega

/-- R168, R169: an incomplete frame is waited for, a complete one leaves the buffer. -/
theorem tripCut_progress (acts : List Action) {buf : Bytes} (h0 : byteAt buf 0 = Config.head)
    (h1 : recognised (byteAt buf 1) = true) : (tripCut acts buf).Progress buf.length := by
  unfold tripCut
  split
  · exact .inr ⟨h0, h1, ‹_›⟩
  · have ht := frameTotal_pos buf
    simp only [Trip.Progress, List.length_drop]
    omega

theorem tripAtHead_progress (acts : List Action) {buf : Bytes} (h0 : byteAt buf 0 = Config.head) :
    (tripAtHead acts buf).Progress buf.length := by
  unfold tripAtHead
  split
  · exact waiting_of_short ‹_›
  · split
    · exact tripCut_progress acts h0 ‹_›
    · exact tripBadFunction_progress acts buf

theorem Trip.Progress.mono {m n : Nat} {t : Trip} (h : t.Progress m) (hmn : m ≤ n) : t.Progress n := by
  cases t with
  | stop _ _ => exact h
  | again _ _ => exact Nat.lt_of_lt_of_le h hmn

/-- R161, R176: every trip stops at bytes that wait, or shortens the buffer. -/
theorem trip_progress (buf : Bytes) : (trip buf).Progress buf.length := by
  unfold trip
  split
  · exact waiting_of_short ‹_›
  · split
    · exact waiting_of_short (by simp)
    · exact tripAtHead_progress [] (headFrom_some ‹_›).2.2
    · rename_i i hi
      obtain ⟨_, _, hb⟩ := headFrom_some hi
      have h0 : byteAt (buf.drop (i + 1)) 0 = Config.head := by rw [byteAt_drop]; exact hb
      exact (tripAtHead_progress _ h0).mono (by simp)

/-- With more trips than bytes the pass ends at a trip that stops. -/
theorem passTrips_waiting {n : Nat} {buf : Bytes} (h : buf.length < n) : Waiting (passTrips n buf).2 := by
  induction n generalizing buf with
  | zero => omega
  | succ n ih =>
    have hp := trip_progress buf
    rw [passTrips]
    split <;> rename_i acts rest ht <;> rw [ht] at hp
    · exact hp
    · exact ih (Nat.lt_of_lt_of_le hp (Nat.le_of_lt_succ h))

/-- Settles O23. -/
theorem passLeavesWaiting : Obligations.PassLeavesWaiting := fun buf => passTrips_waiting (Nat.lt_succ_self buf.length)

/-- R35 item 2 is item 1 with the range of the length field: a waiting buffer has room for one byte more. -/
theorem Waiting.bounded {buf : Bytes} (h : Waiting buf) : buf.length + 1 ≤ Config.rxbufCap := by
  have hl : lengthField buf < 65536 := (be16 (slice buf 2 4)).isLt
  obtain h6 | ⟨_, _, ht⟩ := h
  · simp only [Config.minFrame, Config.rxbufCap] at h6 ⊢
    omega
  · simp only [frameTotal, Config.minFrame, Config.rxbufCap] at ht ⊢
    omega

/-! ### The frame of a dispatch and of a pass's actions -/

section
variable (f : Bytes) (s : State)

@[simp] theorem dispatch_rxbuf : (dispatch f s).rxbuf = s.rxbuf := by
  obtain ⟨_, _, _, _, h⟩ := dispatch_touched f s
  rw [h]

@[simp] theorem dispatch_nextId : (dispatch f s).nextId = s.nextId := by
  obtain ⟨_, _, _, _, h⟩ := dispatch_touched f s
  rw [h]

@[simp] theorem dispatch_now : (dispatch f s).now = s.now := by
  obtain ⟨_, _, _, _, h⟩ := dispatch_touched f s
  rw [h]

@[simp] theorem dispatch_params : (dispatch f s).params = s.params := by
  obtain ⟨_, _, _, _, h⟩ := dispatch_touched f s
  rw [h]

theorem dispatch_events : s.events <+: (dispatch f s).events := by
  obtain ⟨_, _, _, es, h⟩ := dispatch_touched f s
  rw [h]
  exact List.prefix_append _ es

end

section
variable (acts : List Action) (s : State)

@[simp] theorem runActions_rxbuf : (runActions s acts).rxbuf = s.rxbuf.drop (actionsSize acts) := by
  obtain ⟨_, ⟨_, _, _, _, rfl⟩, h⟩ := runActions_touched acts s
  rw [h, State.dropBytes_rxbuf]

@[simp] theorem runActions_nextId : (runActions s acts).nextId = s.nextId := by
  obtain ⟨_, ⟨_, _, _, _, rfl⟩, h⟩ := runActions_touched acts s
  rw [h, State.dropBytes_nextId]

@[simp] theorem runActions_now : (runActions s acts).now = s.now := by
  obtain ⟨_, ⟨_, _, _, _, rfl⟩, h⟩ := runActions_touched acts s
  rw [h, State.dropBytes_now]

@[simp] theorem runActions_params : (runActions s acts).params = s.params := by
  obtain ⟨_, ⟨_, _, _, _, rfl⟩, h⟩ := runActions_touched acts s
  rw [h, State.dropBytes_params]

theorem runActions_events : s.events <+: (runActions s acts).events := by
  obtain ⟨_, ⟨_, _, _, es, rfl⟩, h⟩ := runActions_touched acts s
  rw [h, State.dropBytes_events]
  exact List.prefix_append _ es

end

/-- The actions of a pass leave in the buffer what the pass leaves. -/
theorem runActions_runPass_rxbuf (s : State) : (runActions s (runPass s.rxbuf).1).rxbuf = (runPass s.rxbuf).2 := by
  rw [runActions_rxbuf]
  exact (passTrips_exact _ s.rxbuf).2.symm

/-! ### What a frame does to the table

The oracle's answer decides whether a frame is discarded after its offer, but never what stands in the table: the offered
codes are no acknowledgements (R171, R173). -/

/-- The table after a frame is dispatched: a CRC-valid acknowledgement takes out the oldest entry it matches (R197). -/
def pendAfter (init : U16) (f : Bytes) (pend : List Entry) : List Entry :=
  if frameCheck init f = true ∧ (byteAt f 1 = 0x11#8 ∨ byteAt f 1 = 0xF1#8) then pend.eraseP (matchesFrame f) else pend

theorem correlate_pend_eq (f : Bytes) (s : State) : (correlate f s).pend = s.pend.eraseP (matchesFrame f) := by
  obtain ⟨older, e, newer, hp, ho, he, h⟩ | ⟨hn, h⟩ := correlate_cases f s <;> rw [h]
  · have hno : ∀ x ∈ older, ¬ matchesFrame f x = true := fun x hx => by simp [ho x hx]
    rw [State.complete_pend, hp, erase_oldest ho he, List.eraseP_append_right _ hno, List.eraseP_cons_of_pos he]
  · rw [State.frameError_pend, List.eraseP_of_forall_not fun x hx => by simp [hn x hx]]

theorem dispatchReport_pend (f : Bytes) (s : State) : (dispatchReport f s).pend = s.pend := by
  obtain ⟨_, _, h⟩ | ⟨_, h⟩ := dispatchReport_cases f s <;> rw [h] <;> rfl

theorem pendAfter_of_not_ack (init : U16) {f : Bytes} (pend : List Entry)
    (h : ¬ (byteAt f 1 = 0x11#8 ∨ byteAt f 1 = 0xF1#8)) : pendAfter init f pend = pend :=
  if_neg fun hc => h hc.2

theorem dispatchChecked_pend_eq (f : Bytes) (s : State) :
    (dispatchChecked f s).pend = pendAfter s.params.crcInit f s.pend := by
  by_cases ha : byteAt f 1 = 0x11#8 ∨ byteAt f 1 = 0xF1#8
  · unfold dispatchChecked pendAfter
    by_cases hc : frameCheck s.params.crcInit f = true
    · rw [if_neg (by simp [hc]), if_pos ha, if_pos ⟨hc, ha⟩, correlate_pend_eq]
    · rw [if_pos (Bool.eq_false_iff.2 hc), if_neg fun h => hc h.1, State.frameError_pend]
  · rw [pendAfter_of_not_ack _ _ ha]
    obtain ⟨_, h⟩ | ⟨_, h, _⟩ | ⟨_, _, h⟩ | ⟨_, h⟩ := dispatchChecked_cases f s
    · rw [h, State.frameError_pend]
    · exact absurd h ha
    · rw [h, dispatchReport_pend]
    · rw [h, State.frameError_pend]

/-- R170 to R175: what a dispatch leaves in the table depends on the frame, the table and `CRC_INIT` alone. -/
theorem dispatch_pend_eq (f : Bytes) (s : State) : (dispatch f s).pend = pendAfter s.params.crcInit f s.pend := by
  obtain ⟨hf, ⟨_, h⟩ | ⟨_, h⟩⟩ | ⟨_, h⟩ := dispatch_cases f s <;> rw [h]
  · have hna : ¬ (byteAt f 1 = 0x11#8 ∨ byteAt f 1 = 0xF1#8) := by
      obtain hf | hf := hf <;> rw [hf] <;> decide
    rw [pendAfter_of_not_ack _ _ hna, State.offer_pend]
  · exact dispatchChecked_pend_eq f _
  · exact dispatchChecked_pend_eq f s

/-! ### What a tick does -/

/-- The state that `TICK` leaves (R200): `now` advanced, every entry whose time has run out completed with `Timeout`. -/
def State.ticked (s : State) : State :=
  { s with
    now := s.advance.now
    pend := s.pend.filter fun e => !expired s.params s.advance.now e
    events := s.events ++ (s.pend.filter (expired s.params s.advance.now)).map fun e => .completion e.id (.error .timeout)
    reply := .accepted }

/-- The turns of `TICK` over the rest `es` of the table, where those before have left the entries `kept`. -/
theorem tickEntries_eq (es : List Entry) {kept : List Entry} {s : State} (hp : s.pend = kept ++ es)
    (hk : ∀ x ∈ kept, expired s.params s.now x = false) :
    es.foldl tickEntry s = { s with
      pend := kept ++ es.filter fun e => !expired s.params s.now e
      events := s.events ++ (es.filter (expired s.params s.now)).map fun e => .completion e.id (.error .timeout) } := by
  induction es generalizing kept s with
  | nil => simp [← hp]
  | cons e es ih =>
    rw [List.foldl_cons]
    obtain ⟨hx, ht⟩ | ⟨hx, ht⟩ := tickEntry_cases s e <;> rw [ht]
    · have hc : (s.complete e (.error .timeout)).pend = kept ++ es := by
        rw [State.complete_pend, hp, erase_oldest hk hx]
      rw [ih hc hk]
      simp [hx, State.complete, State.emit]
    · have hk' : ∀ x ∈ kept ++ [e], expired s.params s.now x = false := by
        intro x hm
        obtain hm | hm := List.mem_append.1 hm
        · exact hk x hm
        · rwa [List.mem_singleton.1 hm]
      rw [ih (by simpa using hp) hk']
      simp [hx]

theorem exec_tick_eq (s : State) : exec .tick s = .next s.ticked := by
  have h := tickEntries_eq s.pend (s := s.advance) (kept := []) rfl (by simp)
  rw [exec_tick, h]
  rfl

/-! ### What an instruction can do -/

/-- Only events are told and a reply given: what a pure command, a `SEND`, and a held or refused transaction do. -/
def Told (s t : State) : Prop := ∃ es reply, t = { s with events := s.events ++ es, reply := reply }

theorem Told.refuse (s : State) : Told s s.refuse := ⟨[], .refused, by simp [refuse_eq]⟩

theorem Told.hold (s : State) : Told s s.hold := ⟨[], .held, by simp [hold_eq]⟩

theorem Told.returning (s : State) (v : RetVal) : Told s (s.returning v) := ⟨[.ret v], .accepted, rfl⟩

/-- A command with an operand limit returns or is refused (R124, R130, R131). -/
theorem returning_or_refuse_told (fits : Bool) (v : RetVal) (s : State) :
    ∃ t, (if fits then .next (s.returning v) else .next s.refuse : StepOutcome) = .next t ∧ Told s t := by
  split
  · exact ⟨_, rfl, .returning s v⟩
  · exact ⟨_, rfl, .refuse s⟩

/-- R138, as far as the state elements go. -/
theorem exec_pure {i : Instr} (h : isPure i = true) (s : State) : ∃ t, exec i s = .next t ∧ Told s t := by
  cases i
  case encode | buildUpgradePacket | buildUpgradePackets => exact returning_or_refuse_told _ _ s
  case parseReport payload =>
    simp only [exec, execParseReport]
    split <;> exact ⟨_, rfl, .returning s _⟩
  case crc16 | pack | unpack | frameCheck | parseResponse | buildRead | buildWrite | buildHandshake | buildStatusReply
      | buildUpgradeCrc =>
    exact ⟨_, rfl, .returning s _⟩
  all_goals cases h

/-- R195, as far as the state elements go. -/
theorem exec_send (fn : Byte) (payload : Bytes) (s : State) : ∃ t, exec (.send fn payload) s = .next t ∧ Told s t := by
  simp only [exec, execSend]
  split
  · exact ⟨_, rfl, [.tx (encodeFrame s.params.crcInit fn payload)], .accepted, rfl⟩
  · exact ⟨_, rfl, .refuse s⟩

/-- A pure command and a `SEND` only tell and reply (R138, R195). -/
theorem exec_told {i : Instr} (h : isPure i = true ∨ ∃ fn payload, i = .send fn payload) (s : State) :
    ∃ t, exec i s = .next t ∧ Told s t := by
  obtain h | ⟨fn, payload, rfl⟩ := h
  · exact exec_pure h s
  · exact exec_send fn payload s

/-- R191 to R194: an `ISSUE_*` refuses a chunk that no packet carries, or runs the common part of R190 on a request and a timeout
of its operands, with a frame that the parameters determine. -/
theorem exec_issue {i : Instr} (h : isIssue i = true) :
    (∀ s, exec i s = .next s.refuse) ∨
    ∃ (request : Request) (frame : Params → Bytes) (timeout : Nat),
      ∀ s, exec i s = issue request (frame s.params) timeout s := by
  cases i
  case issueRead a ty k => exact .inr ⟨.read a ty, fun p => buildRead p.crcInit a, k.toNat, fun _ => rfl⟩
  case issueWrite a v ty k =>
    exact .inr ⟨.write a ty, fun p => buildWrite p.crcInit a v.toNat ty, k.toNat, fun _ => rfl⟩
  case issueUpgradeData n chunk k =>
    by_cases hc : fitsChunk chunk = true
    · exact .inr ⟨.upgradeData n, fun p => buildUpgradePacket p.crcInit p.upgradeModeTag n chunk, k.toNat,
        fun _ => if_pos hc⟩
    · exact .inl fun _ => if_neg hc
  case issueUpgradeCrc c n k => exact .inr ⟨.upgradeCrc, fun p => buildUpgradeCrcOf p.crcInit c n, k.toNat, fun _ => rfl⟩
  all_goals cases h

/-- The shapes of the instruction set: the frame types, the commands of R31, the inputs of R30. -/
theorem instr_shapes (i : Instr) :
    isFrame i = true ∨ (isPure i = true ∨ ∃ fn payload, i = .send fn payload) ∨ isIssue i = true ∨
      (∃ b, i = .rxPush b) ∨ i = .tick ∨ i = .reset := by
  cases i <;> simp [isFrame, isPure, isIssue]

/-- What an instruction can do to the state, said once for all of them. -/
inductive Effect (s : State) : Instr → State → Prop
  | frame {i : Instr} (h : isFrame i = true) : Effect s i (dispatch (encode i) s)
  | told {i : Instr} {t : State} (h : Told s t) : Effect s i t
  | registered {i : Instr} (h : isIssue i = true) {id : Nat} {request : Request} {timeout : Nat} {frame : Bytes}
      (fits : timeout < 2 ^ s.params.timeW) (room : s.params.nPending ≠ some s.pend.length) (free : allocId s = some id) :
      Effect s i (s.register id request timeout frame)
  | pushed (b : Byte) : Effect s (.rxPush b) (runActions (s.pushByte b) (runPass (s.rxbuf ++ [b])).1).accept
  | ticked : Effect s .tick s.ticked
  | reset : Effect s .reset (State.accept { s with rxbuf := [], pend := [], nextId := 0, now := 0 })

theorem issue_effect {i : Instr} (hi : isIssue i = true) {request : Request} {frame : Bytes} {timeout : Nat} {s t : State}
    (h : issue request frame timeout s = .next t) : Effect s i t := by
  obtain ⟨_, rfl⟩ | ⟨_, _, rfl⟩ | ⟨hfit, hroom, id, hid, rfl⟩ := issue_cases h
  · exact .told (.refuse s)
  · exact .told (.hold s)
  · exact .registered hi hfit hroom hid

/-- Every instruction has one of the effects. -/
theorem exec_effect {i : Instr} {s t : State} (h : exec i s = .next t) : Effect s i t := by
  obtain hi | hi | hi | ⟨b, rfl⟩ | rfl | rfl := instr_shapes i
  · rw [exec_frame hi] at h
    rw [next_eq h]
    exact .frame hi
  · obtain ⟨u, hu, ht⟩ := exec_told hi s
    rw [hu] at h
    rw [next_eq h]
    exact .told ht
  · obtain hr | ⟨request, frame, timeout, hr⟩ := exec_issue hi <;> rw [hr] at h
    · rw [next_eq h]
      exact .told (.refuse s)
    · exact issue_effect hi h
  · rw [exec_rxPush] at h
    rw [next_eq h]
    exact .pushed b
  · rw [exec_tick_eq] at h
    rw [next_eq h]
    exact .ticked
  · rw [next_eq h]
    exact .reset

/-! ### The parameters, the events and the writers of each element -/

theorem Effect.params_eq {i : Instr} {s t : State} (h : Effect s i t) : t.params = s.params := by
  cases h with
  | frame _ => exact dispatch_params _ s
  | told h => obtain ⟨_, _, rfl⟩ := h; rfl
  | registered => rfl
  | pushed b => exact runActions_params _ _
  | ticked => rfl
  | reset => rfl

theorem Effect.events_prefix {i : Instr} {s t : State} (h : Effect s i t) : s.events <+: t.events := by
  cases h with
  | frame _ => exact dispatch_events _ s
  | told h => obtain ⟨es, _, rfl⟩ := h; exact List.prefix_append _ es
  | registered => exact (List.prefix_append _ _).trans (List.prefix_append _ _)
  | pushed b => exact runActions_events _ (s.pushByte b)
  | ticked => exact List.prefix_append _ _
  | reset => exact List.prefix_refl _

/-- What a step can do: tell events and reply, its transaction taken from the ports, or run an instruction between two changes of
the ports. -/
theorem step_effect {s t : State} (h : step s = .next t) :
    (∃ before, Told { s with inbox := before } t) ∨
    ∃ before after i u, Effect { s with inbox := before } i u ∧ t = { u with inbox := after } := by
  obtain ⟨_, rfl⟩ | ⟨_, rest, _, ⟨_, rfl⟩ | ⟨i, _, hp⟩⟩ := step_cases h
  · exact .inl ⟨t.inbox, [], t.reply, by simp⟩
  · exact .inl ⟨rest, .refuse _⟩
  · obtain ⟨u, hu, ⟨_, rfl⟩ | ⟨_, rfl⟩⟩ := presentAgain_next hp
    · exact .inr ⟨rest, _, i, u, exec_effect hu, rfl⟩
    · exact .inr ⟨rest, t.inbox, i, t, exec_effect hu, rfl⟩

/-- Settles O52. -/
theorem stepsFixParametersAndAppendEvents : Obligations.StepsFixParametersAndAppendEvents := by
  intro s t h
  obtain ⟨_, es, _, rfl⟩ | ⟨_, _, i, u, hu, rfl⟩ := step_effect h
  · exact ⟨rfl, List.prefix_append _ es⟩
  · exact ⟨hu.params_eq, hu.events_prefix⟩

/-- R24: only a pushed byte and a reset change the buffer. -/
theorem Effect.rxbuf_writers {i : Instr} {s t : State} (h : Effect s i t) (hne : t.rxbuf ≠ s.rxbuf) :
    i = .reset ∨ ∃ b, i = .rxPush b := by
  cases h with
  | frame _ => exact absurd (dispatch_rxbuf _ s) hne
  | told h => obtain ⟨_, _, rfl⟩ := h; exact absurd rfl hne
  | registered => exact absurd rfl hne
  | pushed b => exact .inr ⟨b, rfl⟩
  | ticked => exact absurd rfl hne
  | reset => exact .inl rfl

/-- R26: only an `ISSUE_*` and a reset change the id counter. -/
theorem Effect.nextId_writers {i : Instr} {s t : State} (h : Effect s i t) (hne : t.nextId ≠ s.nextId) :
    i = .reset ∨ isIssue i = true := by
  cases h with
  | frame _ => exact absurd (dispatch_nextId _ s) hne
  | told h => obtain ⟨_, _, rfl⟩ := h; exact absurd rfl hne
  | registered hi => exact .inr hi
  | pushed b => exact absurd (runActions_nextId _ _) hne
  | ticked => exact absurd rfl hne
  | reset => exact .inl rfl

/-- R27: only a tick and a reset change the tick counter. -/
theorem Effect.now_writers {i : Instr} {s t : State} (h : Effect s i t) (hne : t.now ≠ s.now) : i = .reset ∨ i = .tick := by
  cases h with
  | frame _ => exact absurd (dispatch_now _ s) hne
  | told h => obtain ⟨_, _, rfl⟩ := h; exact absurd rfl hne
  | registered => exact absurd rfl hne
  | pushed b => exact absurd (runActions_now _ _) hne
  | ticked => exact .inr rfl
  | reset => exact .inl rfl

theorem mayChangePend_of_isIssue {i : Instr} (h : isIssue i = true) : mayChangePend i = true := by
  cases i
  case issueRead | issueWrite | issueUpgradeData | issueUpgradeCrc => rfl
  all_goals cases h

/-- R173: of the frame types only the acknowledgements are correlated. -/
theorem dispatch_pend_of_not_mayChangePend {i : Instr} (hf : isFrame i = true) (hm : mayChangePend i = false) (s : State) :
    (dispatch (encode i) s).pend = s.pend := by
  rw [dispatch_pend_eq]
  apply pendAfter_of_not_ack
  cases i
  case read | write | upgradeData | upgradeCrc | connect | mcuReset | report40 | report50 | report60 =>
    simp [encode]
  case ackWithData | ackNoData => cases hm
  all_goals cases hf

/-- R25: only an `ISSUE_*`, a match, a tick and a reset change the table. -/
theorem Effect.pend_writers {i : Instr} {s t : State} (h : Effect s i t) (hne : t.pend ≠ s.pend) : mayChangePend i = true := by
  cases h with
  | frame hf =>
    by_contra hm
    exact hne (dispatch_pend_of_not_mayChangePend hf (Bool.eq_false_iff.2 hm) s)
  | told h => obtain ⟨_, _, rfl⟩ := h; exact absurd rfl hne
  | registered hi => exact mayChangePend_of_isIssue hi
  | pushed b => rfl
  | ticked => rfl
  | reset => rfl

/-- Settles O53. -/
theorem elementsHaveTheirWriters : Obligations.ElementsHaveTheirWriters := by
  intro i s t h
  have he := exec_effect h
  exact ⟨he.rxbuf_writers, he.nextId_writers, he.now_writers, he.pend_writers⟩

/-! ### The oracle's answers -/

/-- What only tells and replies changes no state element. -/
theorem SameElements.told {s t s' t' : State} (h : SameElements s t) (hs : Told s s') (ht : Told t t') :
    SameElements s' t' := by
  obtain ⟨_, _, rfl⟩ := hs
  obtain ⟨_, _, rfl⟩ := ht
  exact h

/-- R170 to R175: a frame has the same effect on the elements whatever answers wait. -/
theorem SameElements.dispatch {s t : State} (h : SameElements s t) (f : Bytes) :
    SameElements (Machine.dispatch f s) (Machine.dispatch f t) := by
  obtain ⟨hb, hp, hi, hn, hq⟩ := h
  simp only [SameElements, dispatch_rxbuf, dispatch_pend_eq, dispatch_nextId, dispatch_now, dispatch_params]
  exact ⟨hb, by rw [hp, hq], hi, hn, hq⟩

theorem SameElements.dropBytes {s t : State} (h : SameElements s t) (n : Nat) :
    SameElements (s.dropBytes n) (t.dropBytes n) := by
  obtain ⟨hb, h⟩ := h
  exact ⟨congrArg (List.drop n) hb, h⟩

theorem SameElements.pushByte {s t : State} (h : SameElements s t) (b : Byte) :
    SameElements (s.pushByte b) (t.pushByte b) := by
  obtain ⟨hb, h⟩ := h
  exact ⟨congrArg (· ++ [b]) hb, h⟩

theorem SameElements.runAction {s t : State} (h : SameElements s t) (a : Action) :
    SameElements (Machine.runAction s a) (Machine.runAction t a) := by
  cases a with
  | drop reason n => exact h.dropBytes n
  | cut f => exact (h.dispatch f).dropBytes f.length

theorem SameElements.runActions {s t : State} (h : SameElements s t) (acts : List Action) :
    SameElements (Machine.runActions s acts) (Machine.runActions t acts) := by
  induction acts generalizing s t with
  | nil => exact h
  | cons a acts ih => exact ih (h.runAction a)

theorem SameElements.register {s t : State} (h : SameElements s t) (id : Nat) (request : Request) (timeout : Nat)
    (frame : Bytes) : SameElements (s.register id request timeout frame) (t.register id request timeout frame) := by
  obtain ⟨hb, hp, _, hn, hq⟩ := h
  simp only [SameElements, State.register_rxbuf, State.register_pend, State.register_nextId, State.register_now,
    State.register_params]
  exact ⟨hb, by rw [newEntry, newEntry, hp, hn], by rw [hq], hn, hq⟩

theorem SameElements.allocId {s t : State} (h : SameElements s t) : Machine.allocId s = Machine.allocId t := by
  obtain ⟨_, hp, hi, _, hq⟩ := h
  rw [Machine.allocId, Machine.allocId, hp, hi, hq]

/-- R190: an `ISSUE` decides by the table, the id counter and the parameters alone. -/
theorem SameElements.issue {s t s' t' : State} (h : SameElements s t) {request : Request} {frame : Params → Bytes}
    {timeout : Nat} (hs : Machine.issue request (frame s.params) timeout s = .next s')
    (ht : Machine.issue request (frame t.params) timeout t = .next t') : SameElements s' t' := by
  have ha := h.allocId
  obtain ⟨_, hp, _, _, hq⟩ := id h
  unfold Machine.issue at hs ht
  rw [← hq, ← hp, ← ha] at ht
  split at hs
  · rw [if_pos ‹_›] at ht
    exact h.told (next_eq hs ▸ .refuse s) (next_eq ht ▸ .refuse t)
  · rw [if_neg ‹_›] at ht
    split at hs
    · rw [if_pos ‹_›] at ht
      exact h.told (next_eq hs ▸ .hold s) (next_eq ht ▸ .hold t)
    · rw [if_neg ‹_›] at ht
      split at hs <;> rename_i hid <;> rw [hid] at ht
      · rw [next_eq hs, next_eq ht]
        exact h.register ..
      · exact h.told (next_eq hs ▸ .hold s) (next_eq ht ▸ .hold t)

theorem SameElements.ticked {s t : State} (h : SameElements s t) : SameElements s.ticked t.ticked := by
  obtain ⟨hb, hp, hi, hn, hq⟩ := h
  simp only [SameElements, State.ticked, State.advance_now]
  exact ⟨hb, by rw [hp, hn, hq], hi, by rw [hn, hq], hq⟩

/-- Settles O54. -/
theorem verdictsChangeNoElement : Obligations.VerdictsChangeNoElement := by
  intro i s₁ s₂ t₁ t₂ h h₁ h₂
  obtain hi | hi | hi | ⟨b, rfl⟩ | rfl | rfl := instr_shapes i
  · rw [exec_frame hi] at h₁ h₂
    rw [next_eq h₁, next_eq h₂]
    exact h.dispatch _
  · obtain ⟨u₁, hu₁, ht₁⟩ := exec_told hi s₁
    obtain ⟨u₂, hu₂, ht₂⟩ := exec_told hi s₂
    rw [hu₁] at h₁
    rw [hu₂] at h₂
    rw [next_eq h₁, next_eq h₂]
    exact h.told ht₁ ht₂
  · obtain hr | ⟨request, frame, timeout, hr⟩ := exec_issue hi <;> rw [hr] at h₁ h₂
    · exact h.told (next_eq h₁ ▸ .refuse s₁) (next_eq h₂ ▸ .refuse s₂)
    · exact h.issue h₁ h₂
  · obtain ⟨hb, _⟩ := id h
    rw [exec_rxPush] at h₁ h₂
    rw [next_eq h₁, next_eq h₂, hb]
    exact (h.pushByte b).runActions _
  · rw [exec_tick_eq] at h₁ h₂
    rw [next_eq h₁, next_eq h₂]
    exact h.ticked
  · obtain ⟨_, _, _, _, hq⟩ := h
    rw [next_eq h₁, next_eq h₂]
    exact ⟨rfl, rfl, rfl, rfl, hq⟩

/-! ### The invariants between steps -/

/-- A table that has lost entries keeps what R35 says of ids, capacity and widths; the rest is checked anew. -/
theorem Inv.of_sublist {s t : State} (h : Inv s) (hq : t.params = s.params) (hp : t.pend.Sublist s.pend)
    (hw : Waiting t.rxbuf) (ha : ∀ e ∈ t.pend, Alive t.params t.now e) (hi : t.nextId < 2 ^ t.params.idW)
    (hn : t.now < 2 ^ t.params.timeW) : Inv t where
  waiting := hw
  bounded := hw.bounded
  idsDistinct := h.idsDistinct.sublist (hp.map Entry.id)
  withinCapacity n hc := hp.length_le.trans (h.withinCapacity n (hq ▸ hc))
  alive := ha
  nextIdFits := hi
  nowFits := hn
  fieldsFit e he := hq ▸ h.fieldsFit e (hp.subset he)

/-- With counters and parameters as they were, the invariants need the buffer alone checked. -/
theorem Inv.shrink {s t : State} (h : Inv s) (hw : Waiting t.rxbuf) (hp : t.pend.Sublist s.pend) (hi : t.nextId = s.nextId)
    (hn : t.now = s.now) (hq : t.params = s.params) : Inv t := by
  refine h.of_sublist hq hp hw (fun e he => ?_) ?_ ?_
  · rw [hq, hn]
    exact h.alive e (hp.subset he)
  · rw [hi, hq]
    exact h.nextIdFits
  · rw [hn, hq]
    exact h.nowFits

theorem Inv.told {s t : State} (h : Inv s) (ht : Told s t) : Inv t := by
  obtain ⟨_, _, rfl⟩ := ht
  exact h.shrink h.waiting (.refl _) rfl rfl rfl

/-- The ports are no part of the invariants. -/
theorem Inv.withInbox {s : State} (h : Inv s) (inbox : List Bytes) : Inv { s with inbox := inbox } :=
  h.shrink h.waiting (.refl _) rfl rfl rfl

/-- R190: no time has passed for the entry of an accepted `ISSUE`. -/
theorem newEntry_alive (s : State) (id : Nat) (request : Request) (timeout : Nat) :
    Alive s.params s.now (newEntry s id request timeout) := by
  have hz : elapsed s.params s.now s.now = 0 := by simp [elapsed]
  obtain h0 | hpos := Nat.eq_zero_or_pos timeout
  · exact .inr ⟨h0, rfl⟩
  · exact .inl (by rw [newEntry_creationTime, hz]; exact hpos)

/-- R203: the allocated id is live under no entry, so ids stay distinct. -/
theorem liveIds_register_nodup {s : State} {id : Nat} (h : (liveIds s.pend).Nodup) (hid : allocId s = some id)
    (request : Request) (timeout : Nat) : (liveIds (s.pend ++ [newEntry s id request timeout])).Nodup := by
  have hf := allocId_fresh hid
  simp only [liveIds, List.map_append, List.map_cons, List.map_nil, newEntry_id] at h hf ⊢
  exact List.nodup_append_comm.1 (List.nodup_cons.2 ⟨hf, h⟩)

/-- R190: an accepted `ISSUE` keeps the invariants. -/
theorem Inv.register {s : State} (h : Inv s) {id : Nat} {request : Request} {timeout : Nat} {frame : Bytes}
    (fits : timeout < 2 ^ s.params.timeW) (room : s.params.nPending ≠ some s.pend.length) (free : allocId s = some id) :
    Inv (s.register id request timeout frame) where
  waiting := h.waiting
  bounded := h.bounded
  idsDistinct := liveIds_register_nodup h.idsDistinct free request timeout
  withinCapacity n hc := by
    have hle := h.withinCapacity n hc
    have hne : s.pend.length ≠ n := fun e => room (e ▸ hc)
    rw [State.register_pend, List.length_append, List.length_singleton]
    omega
  alive e he := by
    obtain he | he := List.mem_append.1 he
    · exact h.alive e he
    · rw [List.mem_singleton.1 he]
      exact newEntry_alive s id request timeout
  nextIdFits := Nat.mod_lt _ (Nat.two_pow_pos _)
  nowFits := h.nowFits
  fieldsFit e he := by
    obtain he | he := List.mem_append.1 he
    · exact h.fieldsFit e he
    · rw [List.mem_singleton.1 he]
      have hid : id < 2 ^ s.params.idW := allocId_lt h.nextIdFits free
      exact ⟨hid, h.nowFits, fits⟩

/-- R200: what a tick leaves in the table has time left. -/
theorem ticked_alive {s : State} {e : Entry} (he : e ∈ s.ticked.pend) : Alive s.ticked.params s.ticked.now e := by
  obtain ⟨_, hx⟩ := List.mem_filter.1 he
  rw [Bool.not_eq_true', expired, decide_eq_false_iff_not] at hx
  exact .inl (Nat.lt_of_not_le hx)

/-- R35: every instruction keeps the invariants. -/
theorem Effect.inv {i : Instr} {s t : State} (he : Effect s i t) (h : Inv s) : Inv t := by
  cases he with
  | frame _ =>
    exact h.shrink (by rw [dispatch_rxbuf]; exact h.waiting) (dispatch_pend _ s) (dispatch_nextId _ s) (dispatch_now _ s)
      (dispatch_params _ s)
  | told ht => exact h.told ht
  | registered _ fits room free => exact h.register fits room free
  | pushed b =>
    have hw := passLeavesWaiting (s.pushByte b).rxbuf
    rw [← runActions_runPass_rxbuf] at hw
    exact h.shrink hw (runActions_pend _ (s.pushByte b)) (runActions_nextId _ _) (runActions_now _ _) (runActions_params _ _)
  | ticked =>
    exact h.of_sublist rfl List.filter_sublist h.waiting (fun _ => ticked_alive) h.nextIdFits
      (Nat.mod_lt _ (Nat.two_pow_pos _))
  | reset =>
    exact h.of_sublist rfl (List.nil_sublist _) (waiting_of_short (by simp)) (by simp) (Nat.two_pow_pos _)
      (Nat.two_pow_pos _)

/-- Settles O48. -/
theorem stepKeepsInvariants : Obligations.StepKeepsInvariants := by
  intro s t h hstep
  obtain ⟨before, ht⟩ | ⟨before, after, i, u, hu, rfl⟩ := step_effect hstep
  · exact (h.withInbox before).told ht
  · exact (hu.inv (h.withInbox before)).withInbox after

/-! ### Reset -/

/-- Settles O47: the buffer and the table are empty, and zero fits every width. -/
theorem invariantsHoldAtReset : Obligations.InvariantsHoldAtReset where
  waiting := waiting_of_short (by simp)
  bounded := by simp [Config.rxbufCap]
  idsDistinct := List.nodup_nil
  withinCapacity _ _ := Nat.zero_le _
  alive := by simp
  nextIdFits := Nat.two_pow_pos _
  nowFits := Nat.two_pow_pos _
  fieldsFit := by simp

/-- R300: the meaning of `RESET`, with the whole next state. -/
theorem exec_reset (s : State) :
    exec .reset s = .next { s with rxbuf := [], pend := [], nextId := 0, now := 0, reply := .accepted } := rfl

/-- Settles O46. -/
theorem resetStateValues : Obligations.ResetStateValues := by
  refine ⟨⟨rfl, rfl, rfl, rfl⟩, fun s t h => ?_, fun _ _ _ _ _ _ => rfl⟩
  rw [exec_reset] at h
  rw [next_eq h]
  exact ⟨rfl, rfl, rfl, rfl⟩

/-- A step that takes a `RESET` from the ports, in the words of `nextInstr`. -/
theorem step_of_nextInstr_reset {s : State} (h : nextInstr s = some .reset) :
    ∃ t rest, s.inbox = t :: rest ∧ step s = .next { s with
      inbox := rest, rxbuf := [], pend := [], nextId := 0, now := 0, reply := .accepted } := by
  obtain ⟨_, hf⟩ | ⟨t, rest, hi, hf⟩ := fetch_cases s <;> rw [nextInstr, hf] at h
  · cases h
  · refine ⟨t, rest, hi, ?_⟩
    rw [step_of_decodes hi h, exec_reset]
    rfl

/-- R300: at a reset every agent's run ends, and none answers. -/
theorem onInput_reset (a : Agents) : a.onInput (some .reset) = (a.onReset, []) := rfl

/-- After a step that took a `RESET` the agents are some agents' `onReset`. -/
theorem react_agents_of_reset {y : System} (h : nextInstr y.block = some .reset) (s' : State) :
    ∃ a : Agents, (y.react s').agents = a.onReset := by
  simp only [System.react, System.answer_agents, Agents.react, h, onInput_reset]
  exact ⟨_, rfl⟩

/-- Settles O59. -/
theorem resetEndsTheRun : Obligations.ResetEndsTheRun := by
  intro y h
  obtain ⟨t, rest, hi, hs⟩ := step_of_nextInstr_reset h
  have hz : y.step = .next (y.react { y.block with
      inbox := rest, rxbuf := [], pend := [], nextId := 0, now := 0, reply := .accepted }) := by
    simp only [System.step, hi, hs]
  refine ⟨_, hz, rfl, rfl, rfl, rfl, rfl, ?_⟩
  obtain ⟨a, ha⟩ := react_agents_of_reset h _
  rw [ha]
  exact ⟨rfl, rfl, onReset_callers a, onReset_upgrade a.upgrade⟩

end Sys2Proof.Machine

/-! SUPPORT. The statements of 30_encoding.md: the two decoders undo the encoder (O1), what decodes is an encoding (O2), the
function codes (O3), words written out from the spec (O5), and the selectors outside the table (O6). -/

namespace Sys2Proof

/-! ### Operand strings

One equivalence per operand decoder: what it answers, and on which bytes. Right to left it serves O1, left to right O2. -/

theorem DType.ofCode_eq_some_iff {c : Byte} {t : DType} : DType.ofCode c = some t ↔ c = t.code :=
  ⟨fun h => (DType.code_of_ofCode h).symm, fun h => h ▸ DType.ofCode_code t⟩

/-- An operand whose last step is to read a declared type (R106). -/
theorem map_ofCode_eq_some_iff {c : Byte} {mk : DType → Instr} {i : Instr} :
    (DType.ofCode c).map mk = some i ↔ ∃ t, i = mk t ∧ c = t.code := by
  simp only [Option.map_eq_some_iff, DType.ofCode_eq_some_iff, and_comm, eq_comm (a := i)]

section

variable {args : Bytes} {i : Instr}

theorem decodePack_eq_some_iff :
    decodePack args = some i ↔ ∃ value type, i = .pack value type ∧ args = toBe32 value ++ [type.code] := by
  constructor
  · intro h
    unfold decodePack at h
    split at h
    · obtain ⟨type, rfl, rfl⟩ := map_ofCode_eq_some_iff.1 h
      exact ⟨_, type, rfl, by simp⟩
    · cases h
  · rintro ⟨value, type, rfl, rfl⟩
    simp only [decodePack, toBe32, be32_quad, List.cons_append, List.nil_append, DType.ofCode_code, Option.map_some]

theorem decodeUnpack_eq_some_iff :
    decodeUnpack args = some i ↔ ∃ raw type, i = .unpack raw type ∧ args = toBe32 raw ++ [type.code] := by
  constructor
  · intro h
    unfold decodeUnpack at h
    split at h
    · obtain ⟨type, rfl, rfl⟩ := map_ofCode_eq_some_iff.1 h
      exact ⟨_, type, rfl, by simp⟩
    · cases h
  · rintro ⟨raw, type, rfl, rfl⟩
    simp only [decodeUnpack, toBe32, be32_quad, List.cons_append, List.nil_append, DType.ofCode_code, Option.map_some]

theorem decodeEncode_eq_some_iff :
    decodeEncode args = some i ↔ ∃ function payload, i = .encode function payload ∧ args = function :: payload := by
  unfold decodeEncode
  split <;> simp_all [eq_comm]

theorem decodeParseAbsent_eq_some_iff {aw : Bool} : decodeParseAbsent aw args = some i ↔
    ∃ frame type, i = .parseResponse frame aw none type ∧ args = type.code :: frame := by
  constructor
  · intro h
    unfold decodeParseAbsent at h
    split at h
    · obtain ⟨type, rfl, rfl⟩ := map_ofCode_eq_some_iff.1 h
      exact ⟨_, type, rfl, rfl⟩
    · cases h
  · rintro ⟨frame, type, rfl, rfl⟩
    simp [decodeParseAbsent]

theorem decodeParsePresent_eq_some_iff {aw : Bool} : decodeParsePresent aw args = some i ↔
    ∃ frame address type, i = .parseResponse frame aw (some address) type ∧
      args = toBe16 address ++ type.code :: frame := by
  constructor
  · intro h
    unfold decodeParsePresent at h
    split at h
    · obtain ⟨type, rfl, rfl⟩ := map_ofCode_eq_some_iff.1 h
      exact ⟨_, _, type, rfl, by simp⟩
    · cases h
  · rintro ⟨frame, address, type, rfl, rfl⟩
    simp [decodeParsePresent, toBe16, be16_pair]

theorem decodeParseResponse_absent (aw : Bool) (rest : Bytes) :
    decodeParseResponse (boolCode aw :: 0#8 :: rest) = decodeParseAbsent aw rest := by cases aw <;> rfl

theorem decodeParseResponse_present (aw : Bool) (rest : Bytes) :
    decodeParseResponse (boolCode aw :: 1#8 :: rest) = decodeParsePresent aw rest := by cases aw <;> rfl

/-- Of the presence byte only 0 and 1 are read. -/
theorem presence_cases {aw : Bool} {present : Byte} {rest : Bytes}
    (h : (if present = 0#8 then decodeParseAbsent aw rest
      else if present = 1#8 then decodeParsePresent aw rest else none) = some i) :
    (present = 0#8 ∧ decodeParseAbsent aw rest = some i) ∨ (present = 1#8 ∧ decodeParsePresent aw rest = some i) := by
  obtain ⟨h0, ha⟩ | hn := ite_answers h
  · exact .inl ⟨h0, ha⟩
  · exact .inr ((ite_answers hn).resolve_right (Option.some_ne_none i).symm)

/-- What `PARSE_RESPONSE` reads, it read behind a flag and a presence byte. -/
theorem decodeParseResponse_cases (h : decodeParseResponse args = some i) : ∃ aw rest,
    (args = boolCode aw :: 0#8 :: rest ∧ decodeParseAbsent aw rest = some i) ∨
    (args = boolCode aw :: 1#8 :: rest ∧ decodeParsePresent aw rest = some i) := by
  unfold decodeParseResponse at h
  split at h
  · obtain ⟨hf, hp⟩ | hn := ite_answers h
    · subst hf
      obtain ⟨rfl, ha⟩ | ⟨rfl, ha⟩ := presence_cases hp
      · exact ⟨false, _, .inl ⟨rfl, ha⟩⟩
      · exact ⟨false, _, .inr ⟨rfl, ha⟩⟩
    · obtain ⟨ht, hp⟩ := (ite_answers hn).resolve_right (Option.some_ne_none i).symm
      subst ht
      obtain ⟨rfl, ha⟩ | ⟨rfl, ha⟩ := presence_cases hp
      · exact ⟨true, _, .inl ⟨rfl, ha⟩⟩
      · exact ⟨true, _, .inr ⟨rfl, ha⟩⟩
  · cases h

theorem decodeParseResponse_eq_some_iff : decodeParseResponse args = some i ↔
    ∃ frame aw expected type, i = .parseResponse frame aw expected type ∧
      args = boolCode aw :: (encodeExpected expected ++ type.code :: frame) := by
  constructor
  · intro h
    obtain ⟨aw, rest, ⟨rfl, ha⟩ | ⟨rfl, hp⟩⟩ := decodeParseResponse_cases h
    · obtain ⟨frame, type, rfl, rfl⟩ := decodeParseAbsent_eq_some_iff.1 ha
      exact ⟨frame, aw, none, type, rfl, rfl⟩
    · obtain ⟨frame, address, type, rfl, rfl⟩ := decodeParsePresent_eq_some_iff.1 hp
      exact ⟨frame, aw, some address, type, rfl, rfl⟩
  · rintro ⟨frame, aw, none | address, type, rfl, rfl⟩
    · exact (decodeParseResponse_absent aw _).trans (decodeParseAbsent_eq_some_iff.2 ⟨frame, type, rfl, rfl⟩)
    · exact (decodeParseResponse_present aw _).trans
        (decodeParsePresent_eq_some_iff.2 ⟨frame, address, type, rfl, rfl⟩)

theorem decodeBuildRead_eq_some_iff :
    decodeBuildRead args = some i ↔ ∃ address, i = .buildRead address ∧ args = toBe16 address := by
  constructor
  · intro h
    unfold decodeBuildRead at h
    split at h
    · cases h
      exact ⟨_, rfl, by simp⟩
    · cases h
  · rintro ⟨address, rfl, rfl⟩
    simp only [decodeBuildRead, toBe16, be16_pair]

theorem decodeBuildWrite_eq_some_iff : decodeBuildWrite args = some i ↔
    ∃ address value type, i = .buildWrite address value type ∧ args = toBe16 address ++ toBe32 value ++ [type.code] := by
  constructor
  · intro h
    unfold decodeBuildWrite at h
    split at h
    · obtain ⟨type, rfl, rfl⟩ := map_ofCode_eq_some_iff.1 h
      exact ⟨_, _, type, rfl, by simp⟩
    · cases h
  · rintro ⟨address, value, type, rfl, rfl⟩
    simp only [decodeBuildWrite, toBe16, toBe32, be16_pair, be32_quad,
      List.cons_append, List.nil_append, DType.ofCode_code, Option.map_some]

theorem decodeBuildHandshake_eq_some_iff :
    decodeBuildHandshake args = some i ↔ i = .buildHandshake ∧ args = [] := by
  unfold decodeBuildHandshake
  split <;> simp_all [eq_comm]

theorem decodeBuildStatusReply_eq_some_iff :
    decodeBuildStatusReply args = some i ↔ ∃ fc sc, i = .buildStatusReply fc sc ∧ args = [fc, sc] := by
  unfold decodeBuildStatusReply
  split <;> simp_all [eq_comm]

theorem decodeBuildUpgradePacket_eq_some_iff : decodeBuildUpgradePacket args = some i ↔
    ∃ index chunk, i = .buildUpgradePacket index chunk ∧ args = toBe16 index ++ chunk := by
  constructor
  · intro h
    unfold decodeBuildUpgradePacket at h
    split at h
    · cases h
      exact ⟨_, _, rfl, by simp⟩
    · cases h
  · rintro ⟨index, chunk, rfl, rfl⟩
    simp only [decodeBuildUpgradePacket, toBe16, be16_pair, List.cons_append, List.nil_append]

theorem decodeBuildUpgradeCrc_eq_some_iff : decodeBuildUpgradeCrc args = some i ↔
    ∃ image count, i = .buildUpgradeCrc image count ∧ args = toBe16 count ++ image := by
  constructor
  · intro h
    unfold decodeBuildUpgradeCrc at h
    split at h
    · cases h
      exact ⟨_, _, rfl, by simp⟩
    · cases h
  · rintro ⟨image, count, rfl, rfl⟩
    simp only [decodeBuildUpgradeCrc, toBe16, be16_pair, List.cons_append, List.nil_append]

theorem decodeIssueRead_eq_some_iff : decodeIssueRead args = some i ↔
    ∃ address type timeout, i = .issueRead address type timeout ∧
      args = toBe16 address ++ type.code :: toBe32 timeout := by
  constructor
  · intro h
    unfold decodeIssueRead at h
    split at h
    · obtain ⟨type, rfl, rfl⟩ := map_ofCode_eq_some_iff.1 h
      exact ⟨_, type, _, rfl, by simp⟩
    · cases h
  · rintro ⟨address, type, timeout, rfl, rfl⟩
    simp only [decodeIssueRead, toBe16, toBe32, be16_pair, be32_quad,
      List.cons_append, List.nil_append, DType.ofCode_code, Option.map_some]

theorem decodeIssueWrite_eq_some_iff : decodeIssueWrite args = some i ↔
    ∃ address value type timeout, i = .issueWrite address value type timeout ∧
      args = toBe16 address ++ toBe32 value ++ type.code :: toBe32 timeout := by
  constructor
  · intro h
    unfold decodeIssueWrite at h
    split at h
    · obtain ⟨type, rfl, rfl⟩ := map_ofCode_eq_some_iff.1 h
      exact ⟨_, _, type, _, rfl, by simp⟩
    · cases h
  · rintro ⟨address, value, type, timeout, rfl, rfl⟩
    simp only [decodeIssueWrite, toBe16, toBe32, be16_pair, be32_quad,
      List.cons_append, List.nil_append, DType.ofCode_code, Option.map_some]

theorem decodeIssueUpgradeData_eq_some_iff : decodeIssueUpgradeData args = some i ↔
    ∃ index chunk timeout, i = .issueUpgradeData index chunk timeout ∧
      args = toBe16 index ++ toBe32 timeout ++ chunk := by
  constructor
  · intro h
    unfold decodeIssueUpgradeData at h
    split at h
    · cases h
      exact ⟨_, _, _, rfl, by simp⟩
    · cases h
  · rintro ⟨index, chunk, timeout, rfl, rfl⟩
    simp only [decodeIssueUpgradeData, toBe16, toBe32, be16_pair, be32_quad, List.cons_append, List.nil_append]

theorem decodeIssueUpgradeCrc_eq_some_iff : decodeIssueUpgradeCrc args = some i ↔
    ∃ crc count timeout, i = .issueUpgradeCrc crc count timeout ∧
      args = toBe16 crc ++ toBe16 count ++ toBe32 timeout := by
  constructor
  · intro h
    unfold decodeIssueUpgradeCrc at h
    split at h
    · cases h
      exact ⟨_, _, _, rfl, by simp⟩
    · cases h
  · rintro ⟨crc, count, timeout, rfl, rfl⟩
    simp only [decodeIssueUpgradeCrc, toBe16, toBe32, be16_pair, be32_quad, List.cons_append, List.nil_append]

theorem decodeSend_eq_some_iff :
    decodeSend args = some i ↔ ∃ function payload, i = .send function payload ∧ args = function :: payload := by
  unfold decodeSend
  split <;> simp_all [eq_comm]

theorem decodeRxPush_eq_some_iff :
    decodeRxPush args = some i ↔ ∃ b, i = .rxPush b ∧ args = [b] := by
  unfold decodeRxPush
  split <;> simp_all [eq_comm]

theorem decodeTick_eq_some_iff :
    decodeTick args = some i ↔ i = .tick ∧ args = [] := by
  unfold decodeTick
  split <;> simp_all [eq_comm]

theorem decodeReset_eq_some_iff :
    decodeReset args = some i ↔ i = .reset ∧ args = [] := by
  unfold decodeReset
  split <;> simp_all [eq_comm]

end

/-! ### Transactions -/

open Sys2Proof.Machine (isFrame isFrame_frameType)

/-- No well-formedness is needed: an operand string runs to the end of its transaction. -/
theorem decodeCommand_encode {i : Instr} (h : isFrame i = false) : decodeCommand (encode i) = some i := by
  cases i with
  | crc16 bytes => exact decodeOp_crc16 bytes
  | pack value type => exact decodePack_eq_some_iff.2 ⟨value, type, rfl, rfl⟩
  | unpack raw type => exact decodeUnpack_eq_some_iff.2 ⟨raw, type, rfl, rfl⟩
  | encode function payload => exact decodeEncode_eq_some_iff.2 ⟨function, payload, rfl, rfl⟩
  | frameCheck frame => exact decodeOp_frameCheck frame
  | parseResponse frame aw expected type =>
    exact decodeParseResponse_eq_some_iff.2 ⟨frame, aw, expected, type, rfl, rfl⟩
  | parseReport payload => exact decodeOp_parseReport payload
  | buildRead address => exact decodeBuildRead_eq_some_iff.2 ⟨address, rfl, rfl⟩
  | buildWrite address value type => exact decodeBuildWrite_eq_some_iff.2 ⟨address, value, type, rfl, rfl⟩
  | buildHandshake => exact decodeBuildHandshake_eq_some_iff.2 ⟨rfl, rfl⟩
  | buildStatusReply fc sc => exact decodeBuildStatusReply_eq_some_iff.2 ⟨fc, sc, rfl, rfl⟩
  | buildUpgradePacket index chunk => exact decodeBuildUpgradePacket_eq_some_iff.2 ⟨index, chunk, rfl, rfl⟩
  | buildUpgradePackets image => exact decodeOp_buildUpgradePackets image
  | buildUpgradeCrc image count => exact decodeBuildUpgradeCrc_eq_some_iff.2 ⟨image, count, rfl, rfl⟩
  | issueRead address type timeout => exact decodeIssueRead_eq_some_iff.2 ⟨address, type, timeout, rfl, rfl⟩
  | issueWrite address value type timeout =>
    exact decodeIssueWrite_eq_some_iff.2 ⟨address, value, type, timeout, rfl, rfl⟩
  | issueUpgradeData index chunk timeout =>
    exact decodeIssueUpgradeData_eq_some_iff.2 ⟨index, chunk, timeout, rfl, rfl⟩
  | issueUpgradeCrc crc count timeout =>
    exact decodeIssueUpgradeCrc_eq_some_iff.2 ⟨crc, count, timeout, rfl, rfl⟩
  | send function payload => exact decodeSend_eq_some_iff.2 ⟨function, payload, rfl, rfl⟩
  | rxPush b => exact decodeRxPush_eq_some_iff.2 ⟨b, rfl, rfl⟩
  | tick => exact decodeTick_eq_some_iff.2 ⟨rfl, rfl⟩
  | reset => exact decodeReset_eq_some_iff.2 ⟨rfl, rfl⟩
  | _ => cases h

/-- What a selector and its operands are read as, they are the encoding of. -/
theorem encode_of_decodeOp {op : Byte} {args : Bytes} {i : Instr} (h : decodeOp op args = some i) :
    encode i = op :: args := by
  obtain ⟨rfl, h⟩ | ⟨rfl, h⟩ | ⟨rfl, h⟩ | ⟨rfl, h⟩ | ⟨rfl, h⟩ | ⟨rfl, h⟩ | ⟨rfl, h⟩ | ⟨rfl, h⟩ | ⟨rfl, h⟩ | ⟨rfl, h⟩ |
    ⟨rfl, h⟩ | ⟨rfl, h⟩ | ⟨rfl, h⟩ | ⟨rfl, h⟩ | ⟨rfl, h⟩ | ⟨rfl, h⟩ | ⟨rfl, h⟩ | ⟨rfl, h⟩ | ⟨rfl, h⟩ | ⟨rfl, h⟩ |
    ⟨rfl, h⟩ | ⟨rfl, h⟩ := decodeOp_cases h
  · cases h
    rfl
  · obtain ⟨_, _, rfl, rfl⟩ := decodePack_eq_some_iff.1 h
    rfl
  · obtain ⟨_, _, rfl, rfl⟩ := decodeUnpack_eq_some_iff.1 h
    rfl
  · obtain ⟨_, _, rfl, rfl⟩ := decodeEncode_eq_some_iff.1 h
    rfl
  · cases h
    rfl
  · obtain ⟨_, _, _, _, rfl, rfl⟩ := decodeParseResponse_eq_some_iff.1 h
    rfl
  · cases h
    rfl
  · obtain ⟨_, rfl, rfl⟩ := decodeBuildRead_eq_some_iff.1 h
    rfl
  · obtain ⟨_, _, _, rfl, rfl⟩ := decodeBuildWrite_eq_some_iff.1 h
    rfl
  · obtain ⟨rfl, rfl⟩ := decodeBuildHandshake_eq_some_iff.1 h
    rfl
  · obtain ⟨_, _, rfl, rfl⟩ := decodeBuildStatusReply_eq_some_iff.1 h
    rfl
  · obtain ⟨_, _, rfl, rfl⟩ := decodeBuildUpgradePacket_eq_some_iff.1 h
    rfl
  · cases h
    rfl
  · obtain ⟨_, _, rfl, rfl⟩ := decodeBuildUpgradeCrc_eq_some_iff.1 h
    rfl
  · obtain ⟨_, _, _, rfl, rfl⟩ := decodeIssueRead_eq_some_iff.1 h
    rfl
  · obtain ⟨_, _, _, _, rfl, rfl⟩ := decodeIssueWrite_eq_some_iff.1 h
    rfl
  · obtain ⟨_, _, _, rfl, rfl⟩ := decodeIssueUpgradeData_eq_some_iff.1 h
    rfl
  · obtain ⟨_, _, _, rfl, rfl⟩ := decodeIssueUpgradeCrc_eq_some_iff.1 h
    rfl
  · obtain ⟨_, _, rfl, rfl⟩ := decodeSend_eq_some_iff.1 h
    rfl
  · obtain ⟨_, rfl, rfl⟩ := decodeRxPush_eq_some_iff.1 h
    rfl
  · obtain ⟨rfl, rfl⟩ := decodeTick_eq_some_iff.1 h
    rfl
  · obtain ⟨rfl, rfl⟩ := decodeReset_eq_some_iff.1 h
    rfl

theorem encode_of_decodeCommand {t : Bytes} {i : Instr} (h : decodeCommand t = some i) : encode i = t := by
  cases t with
  | nil => cases h
  | cons op args => exact encode_of_decodeOp h

/-- The head byte is no selector, so what reads as a transaction is read as one by `decode`. -/
theorem decode_of_decodeCommand {t : Bytes} {i : Instr} (h : decodeCommand t = some i) : decode t = some i := by
  cases t with
  | nil => cases h
  | cons op args =>
    have hop : op ≠ Config.head := by
      rintro rfl
      exact Option.some_ne_none i (h.symm.trans (decodeOp_head args))
    rw [decode_eq_decodeCommand args hop, h]

/-! ### Frames -/

/-- Every frame row is made by one of `frameType`'s constructors (R84). -/
theorem exists_frameType_of_isFrame {i : Instr} (h : isFrame i = true) :
    ∃ fn mk p c, frameType fn = some mk ∧ i = mk p c := by
  cases i with
  | read p c => exact ⟨0x10#8, _, p, c, rfl, rfl⟩
  | write p c => exact ⟨0x20#8, _, p, c, rfl, rfl⟩
  | upgradeData p c => exact ⟨0x30#8, _, p, c, rfl, rfl⟩
  | upgradeCrc p c => exact ⟨0x31#8, _, p, c, rfl, rfl⟩
  | connect p c => exact ⟨0xE0#8, _, p, c, rfl, rfl⟩
  | mcuReset p c => exact ⟨0xF0#8, _, p, c, rfl, rfl⟩
  | ackWithData p c => exact ⟨0x11#8, _, p, c, rfl, rfl⟩
  | ackNoData p c => exact ⟨0xF1#8, _, p, c, rfl, rfl⟩
  | report40 p c => exact ⟨0x40#8, _, p, c, rfl, rfl⟩
  | report50 p c => exact ⟨0x50#8, _, p, c, rfl, rfl⟩
  | report60 p c => exact ⟨0x60#8, _, p, c, rfl, rfl⟩
  | _ => cases h

/-- R80: a frame row is well formed exactly if the length field can count the payload that its bytes carry. -/
theorem wellFormed_of_isFrame {i : Instr} (h : isFrame i = true) : i.wellFormed = payloadFits (payloadOf (encode i)) := by
  cases i with
  | read p c | write p c | upgradeData p c | upgradeCrc p c | connect p c | mcuReset p c | ackWithData p c | ackNoData p c
  | report40 p c | report50 p c | report60 p c => exact congrArg payloadFits (payloadOf_frameBytes _ p c).symm
  | _ => cases h

theorem wellFormed_frameType {fn : Byte} {mk : Bytes → U16 → Instr} (h : frameType fn = some mk) (p : Bytes) (c : U16) :
    (mk p c).wellFormed = payloadFits p := by
  rw [wellFormed_of_isFrame (isFrame_frameType h p c), encode_frameType h, payloadOf_frameBytes]

theorem decode_encode_of_isFrame {i : Instr} (h : isFrame i = true) (hw : i.wellFormed = true) :
    decode (encode i) = some i := by
  obtain ⟨fn, mk, p, c, hm, rfl⟩ := exists_frameType_of_isFrame h
  rw [wellFormed_frameType hm, payloadFits_iff] at hw
  rw [encode_frameType hm, decode_frameBytes fn c hw, hm, Option.map_some]

/-- R18, R80: what reads as a frame is the frame of the type, payload and crc16 read from it. -/
theorem encode_of_decodeFrame {f : Bytes} {i : Instr} (h : decodeFrame f = some i) :
    encode i = f ∧ i.wellFormed = true := by
  obtain ⟨hw, mk, hm, rfl⟩ := decodeFrame_cases h
  refine ⟨?_, ?_⟩
  · rw [encode_frameType hm, frameBytes_of_wellFramed hw]
  · rw [wellFormed_frameType hm, payloadFits_iff]
    exact (payloadOf_length hw).2

/-! ### The two directions -/

/-- Settles O1: frames by the layout of R80, transactions by the operand strings. -/
theorem decodeEncodeAgree : Obligations.DecodeEncodeAgree := by
  intro i hw
  cases h : isFrame i with
  | true => exact decode_encode_of_isFrame h hw
  | false => exact decode_of_decodeCommand (decodeCommand_encode h)

/-- Settles O2. -/
theorem decodedBytesReencode : Obligations.DecodedBytesReencode :=
  ⟨fun _ _ => encode_of_decodeFrame, fun _ _ => encode_of_decodeCommand⟩

/-! ### Function codes -/

/-- Settles O3: each of the eleven names a frame type, and a byte that is none of them fails every test of `frameType`. -/
theorem recognisedCodesAreEleven : Obligations.RecognisedCodesAreEleven := by
  intro b
  constructor
  · intro hr
    by_contra hb
    simp only [List.mem_cons, List.not_mem_nil, or_false, not_or] at hb
    simp only [recognised, frameType, hb, if_false] at hr
    cases hr
  · simp only [List.mem_cons, List.not_mem_nil, or_false]
    rintro (rfl | rfl | rfl | rfl | rfl | rfl | rfl | rfl | rfl | rfl | rfl) <;> rfl

/-! ### Words of the spec -/

/-- Settles O5: the frames are `frameBytes` of their parts and the transactions are encodings, which the lemmas behind O1
read; 0x99 names no frame type. -/
theorem specWordsDecode : Obligations.SpecWordsDecode :=
  ⟨decodeFrame_frameBytes 0x10 (p := [0x12, 0x00]) 0xF7AD (by decide),
    decodeFrame_frameBytes 0x11 (p := [0x12, 0x00, 0x00, 0x00, 0x00, 0xFF]) 0x05B8 (by decide),
    decodeFrame_frameBytes 0xF1 (p := [0x20, 0xF3]) 0xDA7B (by decide),
    decodeFrame_frameBytes 0x99 (p := []) 0x7FF8 (by decide),
    decodeCommand_encode (i := .issueRead 0x1200 .int8 100) rfl,
    decodeCommand_encode (i := .rxPush 0xAD) rfl,
    decodeCommand_encode (i := .tick) rfl,
    decodeCommand_encode (i := .reset) rfl⟩

/-! ### Selectors outside the table -/

/-- R105: every selector but the table's fails every test of `decodeOp`. -/
theorem decodeOp_eq_none {op : Byte} (h : op ∉ ([0x01#8, 0x02#8, 0x03#8, 0x04#8, 0x05#8, 0x06#8, 0x07#8, 0x10#8, 0x11#8,
      0x12#8, 0x13#8, 0x14#8, 0x15#8, 0x16#8, 0x20#8, 0x21#8, 0x22#8, 0x23#8, 0x24#8, 0x30#8, 0x31#8, 0x3F#8] : List Byte))
    (args : Bytes) :
    decodeOp op args = none := by
  simp only [List.mem_cons, List.not_mem_nil, or_false, not_or] at h
  simp only [decodeOp, h, if_false]

end Sys2Proof

namespace Sys2Proof.Machine

/-- R105: with a transaction at the ports that does not decode, the step refuses it and runs nothing. -/
theorem step_of_not_decodes {s : State} {t : Bytes} {rest : List Bytes} (hs : s.inbox = t :: rest)
    (hd : decodeCommand t = none) : step s = .next { s with inbox := rest, reply := .refused } := by
  simp only [step, fetch_cons hs, hd, refuse_eq]

/-- Settles O6. -/
theorem unknownSelectorRefused : Obligations.UnknownSelectorRefused :=
  fun _ _ args _ hs hop => step_of_not_decodes hs (decodeOp_eq_none hop args)

end Sys2Proof.Machine

/-! SUPPORT. The statements of 40_codec.md on the CRC: its pseudocode (O10), its properties (O11), the frame check (O12). -/

namespace Sys2Proof.Machine

/-! ### The register
Each repetition of R120 is injective, which gives R121 (c) and the equivalence of R125; from the byte that cancels the high
byte of the register, eight repetitions only shift, which gives R121 (b). -/

/-- R120: the test of bit 15. -/
theorem and_bit15_ne_zero_iff (c : U16) : c &&& 0x8000#16 ≠ 0#16 ↔ c.msb = true := by
  have h : c &&& 0x8000#16 = if c.getLsbD 15 = true then 0x8000#16 else 0#16 := BitVec.and_twoPow c 15
  rw [h, BitVec.msb_eq_getLsbD_last]
  split <;> simp_all

theorem crcBit_of_msb {c : U16} (h : c.msb = true) : crcBit c = c <<< 1 ^^^ Config.crcPoly :=
  if_pos ((and_bit15_ne_zero_iff c).2 h)

theorem crcBit_of_not_msb {c : U16} (h : c.msb = false) : crcBit c = c <<< 1 :=
  if_neg fun hc => Bool.false_ne_true (h.symm.trans ((and_bit15_ne_zero_iff c).1 hc))

/-- The polynomial is odd, so a repetition leaves in bit 0 the bit that it shifted out. -/
theorem crcBit_getLsbD_zero (c : U16) : (crcBit c).getLsbD 0 = c.msb := by
  cases h : c.msb
  · simp [crcBit_of_not_msb h]
  · simp [crcBit_of_msb h, Config.crcPoly]

theorem eq_of_shiftLeft_one_of_msb {a b : U16} (h : a <<< 1 = b <<< 1) (hm : a.msb = b.msb) : a = b := by
  have hs := congrArg BitVec.toNat h
  simp only [BitVec.toNat_shiftLeft, Nat.shiftLeft_eq] at hs
  simp only [BitVec.msb_eq_decide, decide_eq_decide] at hm
  apply BitVec.eq_of_toNat_eq
  omega

theorem crcBit_injective : Function.Injective crcBit := by
  intro a b h
  have hm : a.msb = b.msb := by rw [← crcBit_getLsbD_zero, h, crcBit_getLsbD_zero]
  refine eq_of_shiftLeft_one_of_msb ?_ hm
  cases hb : b.msb <;> rw [hb] at hm
  · rwa [crcBit_of_not_msb hb, crcBit_of_not_msb hm] at h
  · rw [crcBit_of_msb hb, crcBit_of_msb hm] at h
    exact (BitVec.xor_left_inj _).1 h

theorem repeat_injective {α : Type} {f : α → α} (h : Function.Injective f) :
    ∀ n, Function.Injective (Nat.repeat f n)
  | 0 => Function.injective_id
  | n + 1 => h.comp (repeat_injective h n)

/-- The register after a byte tells the register before it. -/
theorem crcByte_left_injective (b : Byte) : Function.Injective fun c => crcByte c b := fun _ _ h =>
  (BitVec.xor_left_inj _).1 (repeat_injective crcBit_injective 8 h)

theorem setWidth_shiftLeft_toNat (b : Byte) : (b.setWidth 16 <<< 8 : U16).toNat = b.toNat <<< 8 := by
  have := b.isLt
  simp [Nat.shiftLeft_eq]
  omega

/-- The register after a byte tells the byte, from the same register before it. -/
theorem crcByte_right_injective (c : U16) : Function.Injective (crcByte c) := by
  intro a b h
  have hs := congrArg BitVec.toNat ((BitVec.xor_right_inj _).1 (repeat_injective crcBit_injective 8 h))
  rw [setWidth_shiftLeft_toNat, setWidth_shiftLeft_toNat, Nat.shiftLeft_eq, Nat.shiftLeft_eq] at hs
  exact BitVec.eq_of_toNat_eq (Nat.eq_of_mul_eq_mul_right (by decide) hs)

theorem crc16_injective (bs : Bytes) : Function.Injective fun c => crc16 c bs := by
  induction bs with
  | nil => exact Function.injective_id
  | cons b bs ih =>
    intro c d h
    simp only [crc16_cons] at h
    exact crcByte_left_injective b (ih h)

/-- R121 (d). -/
theorem crc16_append (c : U16) (a b : Bytes) : crc16 c (a ++ b) = crc16 (crc16 c a) b := by
  induction a generalizing c with
  | nil => rfl
  | cons x a ih => simp only [List.cons_append, crc16_cons, ih]

/-- R121 (c), for any change of one byte. -/
theorem crc16_set_ne (init : U16) {m : Bytes} {i : Nat} {b : Byte} (hi : i < m.length) (hb : b ≠ m[i]) :
    crc16 init (m.set i b) ≠ crc16 init m := by
  intro h
  have hm : m = m.take i ++ m[i] :: m.drop (i + 1) := by simp
  rw [List.set_eq_take_append_cons_drop, if_pos hi] at h
  conv at h => rhs; rw [hm]
  simp only [crc16_append, crc16_cons] at h
  exact hb (crcByte_right_injective _ (crc16_injective _ h))

/-- While no bit leaves the register, the repetitions only shift. -/
theorem repeat_crcBit_of_small {n : Nat} {c : U16} (h : c.toNat * 2 ^ n < 2 ^ 16) :
    Nat.repeat crcBit n c = BitVec.ofNat 16 (c.toNat * 2 ^ n) := by
  induction n with
  | zero => simp [Nat.repeat]
  | succ n ih =>
    rw [Nat.pow_succ, ← Nat.mul_assoc] at h
    have hn : c.toNat * 2 ^ n < 2 ^ 15 := by omega
    have hm : (BitVec.ofNat 16 (c.toNat * 2 ^ n)).msb = false := by
      rw [BitVec.msb_eq_false_iff_two_mul_lt, BitVec.toNat_ofNat]
      omega
    rw [Nat.repeat, ih (by omega), crcBit_of_not_msb hm]
    apply BitVec.eq_of_toNat_eq
    simp only [BitVec.toNat_shiftLeft, BitVec.toNat_ofNat, Nat.shiftLeft_eq, Nat.pow_succ, ← Nat.mul_assoc]
    omega

/-- R121 (b), its first byte: it cancels the high byte of the register, and the low byte becomes the high one. -/
theorem crcByte_high (c : U16) : crcByte c (c.extractLsb' 8 8) = (c.extractLsb' 0 8).setWidth 16 <<< 8 := by
  have hx : c ^^^ ((c.extractLsb' 8 8).setWidth 16 <<< 8) = (c.extractLsb' 0 8).setWidth 16 := by
    ext i hi
    by_cases h : i < 8
    · simp [h, BitVec.getLsbD_eq_getElem hi]
    · simp [h, show 8 + (i - 8) = i by omega, show i - 8 < 8 by omega, BitVec.getLsbD_eq_getElem hi]
  have hlow := (c.extractLsb' 0 8).isLt
  have hw : ((c.extractLsb' 0 8).setWidth 16 : U16).toNat = (c.extractLsb' 0 8).toNat :=
    BitVec.toNat_setWidth_of_le (by decide)
  rw [crcByte, hx, repeat_crcBit_of_small (by omega)]
  apply BitVec.eq_of_toNat_eq
  rw [setWidth_shiftLeft_toNat, BitVec.toNat_ofNat, hw, Nat.shiftLeft_eq]
  omega

/-- R121 (b) for the register alone. -/
theorem crc16_toBe16 (c : U16) : crc16 c (toBe16 c) = 0#16 := by
  rw [toBe16, crc16_cons, crcByte_high, crc16_cons, crcByte, BitVec.xor_self]
  rfl

/-- R121 (b) the other way round: only the register's own two bytes bring it to zero. -/
theorem crc16_pair_eq_zero_iff (c : U16) (h l : Byte) : crc16 c [h, l] = 0#16 ↔ be16 [h, l] = c := by
  have hz := crc16_toBe16 (be16 [h, l])
  rw [toBe16_be16] at hz
  constructor
  · intro hc
    exact crc16_injective [h, l] (hz.trans hc.symm)
  · rintro rfl
    exact hz

theorem one_shiftLeft_ne_zero {k : Nat} (h : k < 8) : (1#8 <<< k : Byte) ≠ 0#8 := by
  interval_cases k <;> decide

/-- Settles O11: (a) is that CRC16 is a function; (b), (c), (d) by the lemmas above. -/
theorem crcProperties : Obligations.CrcProperties := by
  refine ⟨fun init a b h => h ▸ rfl, fun init m => ?residue, fun init m i k hi hk => ?flip, crc16_append⟩
  case residue => rw [crc16_append, crc16_toBe16]
  case flip =>
    have hb : byteAt m i = m[i] := by simp [byteAt, hi]
    refine crc16_set_ne init hi fun h => one_shiftLeft_ne_zero hk ?_
    rw [hb] at h
    exact (BitVec.xor_right_inj m[i]).1 (h.trans BitVec.xor_zero.symm)

/-! ### The pseudocode of R120 on numbers
The unmasked number, reduced to 16 bits, is the register after every repetition; the masked number is the unmasked one reduced. -/

theorem ofNat_crcRepeatLate (n : Nat) : BitVec.ofNat 16 (crcRepeatLate n) = crcBit (BitVec.ofNat 16 n) := by
  have htest : (BitVec.ofNat 16 n).msb = true ↔ n &&& 0x8000 ≠ 0 := by
    have hle : n &&& 0x8000 ≤ 0x8000 := Nat.and_le_right
    rw [← and_bit15_ne_zero_iff, ← BitVec.ofNat_and, Ne, ← BitVec.toNat_inj, BitVec.toNat_ofNat, BitVec.toNat_ofNat]
    omega
  have hshift : BitVec.ofNat 16 (n <<< 1) = BitVec.ofNat 16 n <<< 1 := by
    apply BitVec.eq_of_toNat_eq
    simp [Nat.shiftLeft_eq]
  unfold crcRepeatLate
  split
  · rw [crcBit_of_msb (htest.2 ‹_›), BitVec.ofNat_xor, hshift]
  · rw [crcBit_of_not_msb (by simpa using mt htest.1 ‹_›), hshift]

/-- Masked after the shift, the number is the register. -/
theorem crcRepeat_toNat (c : U16) : crcRepeat c.toNat = (crcBit c).toNat := by
  have h : crcRepeat c.toNat = crcRepeatLate c.toNat &&& (2 ^ 16 - 1) := by
    unfold crcRepeat crcRepeatLate
    split <;> rfl
  rw [h, Nat.and_two_pow_sub_one_eq_mod, ← BitVec.toNat_ofNat, ofNat_crcRepeatLate, BitVec.ofNat_toNat, BitVec.setWidth_eq]

/-- A function that commutes with one repetition commutes with `n` of them. -/
theorem repeat_semiconj {α β : Type} {f : α → α} {g : β → β} {φ : α → β} (h : ∀ a, φ (f a) = g (φ a)) (n : Nat) (a : α) :
    φ (Nat.repeat f n a) = Nat.repeat g n (φ a) := by
  induction n with
  | zero => rfl
  | succ n ih => rw [Nat.repeat, Nat.repeat, h, ih]

/-- R120, masked after every shift. -/
theorem crcNumber_toNat (c : U16) (bs : Bytes) : crcNumber c.toNat bs = (crc16 c bs).toNat := by
  induction bs generalizing c with
  | nil => rfl
  | cons b bs ih =>
    have hbyte : Nat.repeat crcRepeat 8 (c.toNat ^^^ b.toNat <<< 8) = (crcByte c b).toNat := by
      rw [← setWidth_shiftLeft_toNat, ← BitVec.toNat_xor]
      exact (repeat_semiconj (fun a => (crcRepeat_toNat a).symm) 8 _).symm
    rw [crcNumber, hbyte, ih, crc16_cons]

/-- R120, masked only at the end. -/
theorem ofNat_crcNumberLate (n : Nat) (bs : Bytes) :
    BitVec.ofNat 16 (crcNumberLate n bs) = crc16 (BitVec.ofNat 16 n) bs := by
  induction bs generalizing n with
  | nil => rfl
  | cons b bs ih =>
    have hb : BitVec.ofNat 16 (b.toNat <<< 8) = b.setWidth 16 <<< 8 := by
      rw [← setWidth_shiftLeft_toNat, BitVec.ofNat_toNat, BitVec.setWidth_eq]
    rw [crcNumberLate, ih, repeat_semiconj ofNat_crcRepeatLate, BitVec.ofNat_xor, hb, crc16_cons, crcByte]

/-- Settles O10. -/
theorem crcComputesPseudocode : Obligations.CrcComputesPseudocode := by
  refine ⟨fun init bs => (crcNumber_toNat init bs).symm, fun init bs => ?late, crc16_nil, fun bs s => ?command⟩
  case late =>
    have hmask := Nat.and_two_pow_sub_one_eq_mod (crcNumberLate init.toNat bs) 16
    rw [← BitVec.toNat_ofNat, ofNat_crcNumberLate, BitVec.ofNat_toNat, BitVec.setWidth_eq] at hmask
    exact hmask
  case command =>
    rw [crcNumber_toNat, BitVec.ofNat_toNat, BitVec.setWidth_eq]
    rfl

/-! ### The frame check -/

/-- Two bytes or more: all but the last two, and those. -/
theorem exists_append_pair {f : Bytes} (h : 2 ≤ f.length) : ∃ m a b, f = m ++ [a, b] := by
  obtain ⟨a, b, hab⟩ := List.length_eq_two.1 (show (f.drop (f.length - 2)).length = 2 by rw [List.length_drop]; omega)
  exact ⟨f.take (f.length - 2), a, b, by rw [← hab, List.take_append_drop]⟩

/-- R125 on a string cut before its last two bytes. -/
theorem frameCheck_append_pair (init : U16) (m : Bytes) (h l : Byte) :
    frameCheck init (m ++ [h, l]) = true ↔ be16 [h, l] = crc16 init m := by
  simp [frameCheck, slice]

/-- R125: equivalently the CRC of the whole is zero. -/
theorem frameCheck_iff_crc16_eq_zero (init : U16) {f : Bytes} (h : 2 ≤ f.length) :
    frameCheck init f = true ↔ crc16 init f = 0#16 := by
  obtain ⟨m, a, b, rfl⟩ := exists_append_pair h
  rw [frameCheck_append_pair, crc16_append, crc16_pair_eq_zero_iff]

/-- Settles O12. -/
theorem frameCheckTestsTheCrc : Obligations.FrameCheckTestsTheCrc :=
  ⟨fun _ _ => rfl, fun _ _ h => if_pos h, frameCheck_append_pair, fun init _ h => frameCheck_iff_crc16_eq_zero init h⟩

end Sys2Proof.Machine

/-! SUPPORT. The statements of 40_codec.md on typed values: `PACK` (O8), `UNPACK` (O9), their round trips (O7). -/

namespace Sys2Proof.Machine

theorem typeBits_le (t : DType) : typeBits t ≤ 32 := by cases t <;> decide

theorem typeBits_pos (t : DType) : 0 < typeBits t := by cases t <;> decide

theorem two_pow_typeBits_le (t : DType) : 2 ^ typeBits t ≤ 2 ^ 32 := Nat.pow_le_pow_right (by decide) (typeBits_le t)

/-! ### PACK -/

/-- R122: every type packs modulo `2^N`; the 32-bit pattern of a float32 is the case `N = 32`. -/
theorem pack_eq (v : Int) (t : DType) : pack v t = toBe32 (BitVec.ofInt 32 (v % ((2 ^ typeBits t : Nat) : Int))) := by
  unfold pack
  split
  · subst t
    congr 1
    apply BitVec.eq_of_toNat_eq
    simp [BitVec.toNat_ofInt, typeBits]
  · rfl

/-- R122 on numbers: the low `N` bits. -/
theorem pack_natCast (n : Nat) (t : DType) : pack n t = toBe32 (BitVec.ofNat 32 (n % 2 ^ typeBits t)) := by
  rw [pack_eq, ← Int.natCast_emod, BitVec.ofInt_natCast]

/-- `PACK` depends on the value modulo `2^N` only. -/
theorem pack_congr {v w : Int} {t : DType} (h : v % ((2 ^ typeBits t : Nat) : Int) = w % ((2 ^ typeBits t : Nat) : Int)) :
    pack v t = pack w t := by
  rw [pack_eq, h, ← pack_eq]

/-- The word of `pack_eq` is the value modulo `2^N`. -/
theorem toNat_ofInt_emod (v : Int) (t : DType) :
    (BitVec.ofInt 32 (v % ((2 ^ typeBits t : Nat) : Int))).toNat = (v % ((2 ^ typeBits t : Nat) : Int)).toNat := by
  have hle := two_pow_typeBits_le t
  have hpos : 0 < 2 ^ typeBits t := Nat.two_pow_pos _
  have h0 := Int.emod_nonneg v (b := ((2 ^ typeBits t : Nat) : Int)) (by omega)
  have h1 := Int.emod_lt_of_pos v (b := ((2 ^ typeBits t : Nat) : Int)) (by omega)
  rw [BitVec.toNat_ofInt, Int.emod_eq_of_lt h0 (by omega)]

/-- Settles O8. -/
theorem packReturnsLowBits : Obligations.PackReturnsLowBits := by
  refine ⟨pack_eq, fun value t s => ?_⟩
  rw [← pack_natCast]
  rfl

/-! ### UNPACK -/

/-- `sext_N` (R13) with its test turned round, as R123 words it. -/
theorem sext_eq (n v : Nat) : sext n v = if 2 ^ (n - 1) ≤ v then (v : Int) - (2 ^ n : Nat) else v := by
  unfold sext
  split <;> split <;> omega

/-- R123: a float32 is its pattern, the case `N = 32` of an unsigned type. -/
theorem unpack_toBe32 (raw : U32) (t : DType) : unpack (toBe32 raw) t =
    if typeSigned t = true then sext (typeBits t) (raw.toNat % 2 ^ typeBits t)
    else ((raw.toNat % 2 ^ typeBits t : Nat) : Int) := by
  unfold unpack
  rw [be32_toBe32]
  split
  · subst t
    rw [if_neg (by decide), Nat.mod_eq_of_lt (show raw.toNat < 2 ^ typeBits .float32 from raw.isLt)]
  · rfl

/-- R123 as one test. -/
theorem unpack_toBe32_eq_ite (raw : U32) (t : DType) : unpack (toBe32 raw) t =
    if typeSigned t = true ∧ 2 ^ (typeBits t - 1) ≤ raw.toNat % 2 ^ typeBits t
    then ((raw.toNat % 2 ^ typeBits t : Nat) : Int) - (2 ^ typeBits t : Nat)
    else ((raw.toNat % 2 ^ typeBits t : Nat) : Int) := by
  rw [unpack_toBe32, sext_eq, ite_and]

/-- Settles O9. -/
theorem unpackSignExtends : Obligations.UnpackSignExtends := by
  intro raw t s
  rw [← unpack_toBe32_eq_ite]
  rfl

/-! ### The round trips -/

/-- R137, out of range: the value wrapped, sign-extended for a signed type. -/
theorem unpack_pack (v : Int) (t : DType) : unpack (pack v t) t =
    if typeSigned t = true then sext (typeBits t) (v % (2 ^ typeBits t : Nat)).toNat else v % (2 ^ typeBits t : Nat) := by
  have hpos : 0 < 2 ^ typeBits t := Nat.two_pow_pos _
  have h0 := Int.emod_nonneg v (b := ((2 ^ typeBits t : Nat) : Int)) (by omega)
  have h1 := Int.emod_lt_of_pos v (b := ((2 ^ typeBits t : Nat) : Int)) (by omega)
  rw [pack_eq, unpack_toBe32, toNat_ofInt_emod, Nat.mod_eq_of_lt (by omega), Int.toNat_of_nonneg h0]

/-- R98: the range of a type is that of its width and sign. -/
theorem inRange_iff (t : DType) (v : Int) : InRange t v ↔
    if typeSigned t = true then -(2 ^ (typeBits t - 1) : Nat) ≤ v ∧ v < (2 ^ (typeBits t - 1) : Nat)
    else 0 ≤ v ∧ v < (2 ^ typeBits t : Nat) := by
  cases t <;> simp [InRange, typeSigned, typeBits] <;> omega

/-- Sign extension undoes the wrap of a value in the signed range of `n + 1` bits. -/
theorem sext_emod {n : Nat} {v : Int} (hlo : -(2 ^ n : Nat) ≤ v) (hhi : v < (2 ^ n : Nat)) :
    sext (n + 1) (v % (2 ^ (n + 1) : Nat)).toNat = v := by
  have hp : 2 ^ (n + 1) = 2 ^ n + 2 ^ n := by omega
  rw [sext_eq, Nat.add_sub_cancel, hp]
  by_cases hv : 0 ≤ v
  · rw [Int.emod_eq_of_lt hv (by omega), if_neg (by omega)]
    omega
  · rw [← Int.add_emod_right, Int.emod_eq_of_lt (by omega) (by omega), if_pos (by omega)]
    omega

/-- R137, in range. -/
theorem unpack_pack_of_inRange {t : DType} {v : Int} (h : InRange t v) : unpack (pack v t) t = v := by
  rw [inRange_iff] at h
  rw [unpack_pack]
  split at h <;> rename_i hs
  · obtain ⟨n, hn⟩ : ∃ n, typeBits t = n + 1 := ⟨typeBits t - 1, by have := typeBits_pos t; omega⟩
    rw [hn, Nat.add_sub_cancel] at h
    rw [if_pos hs, hn, sext_emod h.1 h.2]
  · rw [if_neg hs, Int.emod_eq_of_lt h.1 h.2]

/-- Sign extension keeps a number modulo `2^N`. -/
theorem sext_emod_self (n v : Nat) : sext n v % (2 ^ n : Nat) = v % (2 ^ n : Nat) := by
  unfold sext
  split
  · rfl
  · exact Int.sub_emod_right _ _

/-- R137, the reverse form. -/
theorem pack_unpack (t : DType) (raw : U32) :
    pack (unpack (toBe32 raw) t) t = toBe32 (BitVec.ofNat 32 (raw.toNat % 2 ^ typeBits t)) := by
  have hmod : unpack (toBe32 raw) t % (2 ^ typeBits t : Nat) = (raw.toNat : Int) % (2 ^ typeBits t : Nat) := by
    rw [unpack_toBe32]
    split
    · rw [sext_emod_self, Int.natCast_emod, Int.emod_emod]
    · rw [Int.natCast_emod, Int.emod_emod]
  rw [pack_congr hmod, pack_natCast]

theorem toBe32_inj {a b : U32} : toBe32 a = toBe32 b ↔ a = b :=
  ⟨fun h => by rw [← be32_toBe32 a, h, be32_toBe32], congrArg toBe32⟩

/-- R137: the reverse form gives the raw word where no bit was dropped. -/
theorem pack_unpack_eq_iff (t : DType) (raw : U32) :
    pack (unpack (toBe32 raw) t) t = toBe32 raw ↔ raw.toNat < 2 ^ typeBits t := by
  have hle : raw.toNat % 2 ^ typeBits t < 2 ^ 32 := Nat.lt_of_le_of_lt (Nat.mod_le _ _) raw.isLt
  rw [pack_unpack, toBe32_inj, ← BitVec.toNat_inj, BitVec.toNat_ofNat, Nat.mod_eq_of_lt hle]
  exact Nat.mod_eq_iff_lt (Nat.two_pow_pos _).ne'

/-- Settles O7. -/
theorem packUnpackRoundTrip : Obligations.PackUnpackRoundTrip :=
  ⟨fun _ _ h => unpack_pack_of_inRange h,
    fun t v h => by rw [unpack_pack, if_pos h],
    fun t v h => by rw [unpack_pack, if_neg (by simp [h])],
    pack_unpack, pack_unpack_eq_iff⟩

end Sys2Proof.Machine

/-! SUPPORT. The statements of 40_codec.md on the frames that the builders build: `ENCODE` (O13, O14), the builders of single frames
(O15, O16), the packets of an image (O17), the refusals that `ISSUE_*` takes over from them (O40); and what a pure command
depends on (O20). -/

namespace Sys2Proof.Machine

/-! ### ENCODE -/

/-- R124 for a payload whose length is known: the length field is its two bytes. -/
theorem encodeFrame_of_length (init : U16) (fn : Byte) {p : Bytes} {n : Nat} (h : p.length = n) :
    encodeFrame init fn p = withCrc init ([Config.head, fn] ++ toBe16 (BitVec.ofNat 16 n) ++ p) := by
  subst h
  rfl

/-- Settles O13. -/
theorem encodeBuildsTheFrame : Obligations.EncodeBuildsTheFrame := fun _ payload _ =>
  ⟨fun h => if_pos ((fitsLength_iff payload).2 h),
    fun h => if_neg (mt (fitsLength_iff payload).1 (Nat.not_le.2 h))⟩

/-- R124's corner case: a CRC-valid frame is what the builder makes of its function byte and its payload. -/
theorem encodeFrame_of_frameCheck {init : U16} {f : Bytes} (hw : wellFramed f = true) (hc : frameCheck init f = true) :
    encodeFrame init (byteAt f 1) (payloadOf f) = f := by
  have hf := frameBytes_of_wellFramed hw
  rw [← hf, frameCheck_frameBytes] at hc
  rw [encodeFrame_eq, ← hc, hf]

/-- Settles O14. -/
theorem echoReproducesTheFrame : Obligations.EchoReproducesTheFrame := by
  intro f s hw hc
  have he := encodeFrame_of_frameCheck hw hc
  have hfit := (fitsLength_iff _).2 (payloadOf_length hw).2
  refine ⟨he, ?_⟩
  rw [exec, execSend, if_pos hfit, he]
  rfl

/-! ### The builders of single frames -/

/-- R126. -/
theorem buildRead_eq (init a : U16) :
    buildRead init a = withCrc init ([0x5A#8, 0x10#8, 0x00#8, 0x02#8] ++ toBe16 a) :=
  encodeFrame_of_length init 0x10#8 (readPayload_length a)

/-- R127. -/
theorem buildWrite_eq (init a : U16) (v : U32) (t : DType) : buildWrite init a v.toNat t =
    withCrc init ([0x5A#8, 0x20#8, 0x00#8, 0x06#8] ++ toBe16 a ++ toBe32 (BitVec.ofNat 32 (v.toNat % 2 ^ typeBits t))) := by
  rw [buildWrite, encodeFrame_of_length init _ (writePayload_length a _ t), writePayload, pack_natCast, ← List.append_assoc]
  rfl

/-- R128. -/
theorem buildHandshake_eq (init : U16) : buildHandshake init = withCrc init [0x5A#8, 0xE0#8, 0x00#8, 0x00#8] :=
  encodeFrame_of_length init 0xE0#8 rfl

/-- R129. -/
theorem buildStatusReply_eq (init : U16) (fc sc : Byte) :
    buildStatusReply init fc sc = withCrc init [0x5A#8, 0xF1#8, 0x00#8, 0x02#8, fc, sc] :=
  encodeFrame_of_length init 0xF1#8 (statusPayload_length fc sc)

/-- R132: the CRC in the payload is over the image as given. -/
theorem buildUpgradeCrc_eq (init : U16) (image : Bytes) (n : U16) : buildUpgradeCrc init image n =
    withCrc init ([0x5A#8, 0x31#8, 0x00#8, 0x04#8] ++ toBe16 (crc16 init image) ++ toBe16 n) := by
  rw [buildUpgradeCrc, buildUpgradeCrcOf, encodeFrame_of_length init _ (upgradeCrcPayload_length _ n), upgradeCrcPayload,
    ← List.append_assoc]
  rfl

theorem returning_frame_eq (s : State) {f g : Bytes} (h : f = g) : (.next (s.returning (.frame f)) : StepOutcome) =
    .next { s with events := s.events ++ [.ret (.frame g)], reply := .accepted } := by
  rw [h, returning_eq]

/-- Settles O15. -/
theorem buildersReturnTheirFrames : Obligations.BuildersReturnTheirFrames := fun s =>
  ⟨fun a => returning_frame_eq s (buildRead_eq _ a),
    fun a v t => returning_frame_eq s (buildWrite_eq _ a v t),
    returning_frame_eq s (buildHandshake_eq _),
    fun fc sc => returning_frame_eq s (buildStatusReply_eq _ fc sc),
    fun image n => returning_frame_eq s (buildUpgradeCrc_eq _ image n)⟩

/-! ### Upgrade packets -/

/-- R130: the builder's frame written out. -/
theorem buildUpgradePacket_eq (p : Params) (k : U16) {chunk : Bytes} (h : chunk.length ≤ 2048) :
    buildUpgradePacket p.crcInit p.upgradeModeTag k chunk = packetFrame p k chunk := by
  rw [buildUpgradePacket, encodeFrame_of_length _ _ (upgradeDataPayload_length _ k h), packetFrame, upgradeDataPayload,
    padChunk]
  simp only [← List.append_assoc]
  rfl

theorem packetFrame_length (p : Params) (k : U16) {chunk : Bytes} (h : chunk.length ≤ 2048) :
    (packetFrame p k chunk).length = 2058 := by
  rw [← buildUpgradePacket_eq p k h, buildUpgradePacket, encodeFrame_length, upgradeDataPayload_length _ k h]

/-- Settles O16. -/
theorem upgradePacketIsPadded : Obligations.UpgradePacketIsPadded := by
  intro k chunk s
  refine ⟨fun h => ⟨packetFrame_length s.params k h, ?_⟩, fun h => if_neg (mt (fitsChunk_iff chunk).1 (Nat.not_le.2 h))⟩
  exact (if_pos ((fitsChunk_iff chunk).2 h)).trans (returning_frame_eq s (buildUpgradePacket_eq s.params k h))

/-- R59: chunk `i` of an image. -/
theorem imageChunk_eq (image : Bytes) (i : Nat) : imageChunk image i = (image.drop (2048 * i)).take 2048 := by
  rw [imageChunk, slice, List.take_eq_take_iff, List.length_drop]
  simp only [Config.packetSize]
  omega

/-- R131: the packets of an image, written out. -/
theorem buildUpgradePackets_eq (p : Params) (image : Bytes) :
    buildUpgradePackets p.crcInit p.upgradeModeTag image = (List.range ((image.length + 2047) / 2048)).map fun i =>
      packetFrame p (BitVec.ofNat 16 i) ((image.drop (2048 * i)).take 2048) := by
  rw [buildUpgradePackets, numPackets_eq]
  refine List.map_congr_left fun i _ => ?_
  rw [imageChunk_eq, buildUpgradePacket_eq p _ (List.length_take_le _ _)]

/-- Behind head, function, length, mode tag and index a packet carries its padded chunk. -/
theorem packetFrame_chunk (p : Params) (k : U16) {chunk : Bytes} (h : chunk.length ≤ 2048) :
    ((packetFrame p k chunk).drop 8).take 2048 = padChunk chunk := by
  have hp : payloadOf (packetFrame p k chunk) = upgradeDataPayload p.upgradeModeTag k chunk := by
    rw [← buildUpgradePacket_eq p k h, buildUpgradePacket, payloadOf_encodeFrame]
  rw [payloadOf, slice, packetFrame_length p k h] at hp
  have hd := congrArg (List.drop 4) hp
  rwa [List.drop_take, List.drop_drop] at hd

/-- Joined, the padded chunks of an image are the image and the zeros that the packets have room for. -/
theorem flatMap_padChunk (n : Nat) {image : Bytes} (h : image.length ≤ 2048 * n) :
    (List.range n).flatMap (fun i => padChunk ((image.drop (2048 * i)).take 2048)) =
      image ++ List.replicate (2048 * n - image.length) 0x00#8 := by
  induction n generalizing image with
  | zero => simp_all
  | succ n ih =>
    have hrest := ih (image := image.drop 2048) (by rw [List.length_drop]; omega)
    simp only [List.drop_drop, List.length_drop] at hrest
    have hshift : ∀ i, 2048 * (i + 1) = 2048 + 2048 * i := fun i => by omega
    simp only [List.range_succ_eq_map, List.flatMap_cons, List.flatMap_map, Nat.succ_eq_add_one, hshift, hrest, Nat.mul_zero,
      List.drop_zero]
    obtain hl | hl := Nat.lt_or_ge image.length 2048
    · have hroom : Config.packetSize - image.length + (2048 * n - (image.length - 2048)) =
          2048 + 2048 * n - image.length := by
        simp only [Config.packetSize]
        omega
      rw [List.take_of_length_le hl.le, List.drop_of_length_le hl.le, padChunk, List.append_assoc, List.nil_append,
        List.replicate_append_replicate, hroom]
    · have hroom : 2048 * n - (image.length - 2048) = 2048 + 2048 * n - image.length := by omega
      have hpad : padChunk (image.take 2048) = image.take 2048 := by
        simp [padChunk, hl]
      rw [hpad, ← List.append_assoc, List.take_append_drop, hroom]

/-- R131, D22: with at most 65535 packets the image is cut, with more the command is refused. -/
theorem exec_buildUpgradePackets_of_fits {image : Bytes} (h : image.length ≤ 2048 * 65535) (s : State) :
    exec (.buildUpgradePackets image) s =
      .next (s.returning (.frames (buildUpgradePackets s.params.crcInit s.params.upgradeModeTag image))) :=
  if_pos ((fitsImage_iff image).2 h)

/-- Settles O17. -/
theorem upgradePacketsCutTheImage : Obligations.UpgradePacketsCutTheImage := by
  intro image s
  refine ⟨fun h => ?fits, fun h => if_neg (mt (fitsImage_iff image).1 (Nat.not_le.2 h))⟩
  case fits =>
    have hlen : (buildUpgradePackets s.params.crcInit s.params.upgradeModeTag image).length = (image.length + 2047) / 2048 := by
      rw [buildUpgradePackets_eq, List.length_map, List.length_range]
    have hget : ∀ i, i < (image.length + 2047) / 2048 →
        (buildUpgradePackets s.params.crcInit s.params.upgradeModeTag image)[i]? =
          some (packetFrame s.params (BitVec.ofNat 16 i) ((image.drop (2048 * i)).take 2048)) := by
      intro i hi
      rw [buildUpgradePackets_eq, List.getElem?_map, List.getElem?_range hi, Option.map_some]
    refine ⟨_, exec_buildUpgradePackets_of_fits h s, hlen, fun i hi => hget i (hlen ▸ hi),
      2048 * ((image.length + 2047) / 2048) - image.length, ?joined, by omega⟩
    case joined =>
      rw [hlen, ← flatMap_padChunk _ (show image.length ≤ 2048 * ((image.length + 2047) / 2048) by omega)]
      refine List.flatMap_congr fun i hi => ?_
      rw [List.getD_eq_getElem?_getD, hget i (List.mem_range.1 hi), Option.getD_some,
        packetFrame_chunk _ _ (List.length_take_le _ _)]

/-! ### Refused ISSUE_* -/

theorem issue_of_oversized_timeout (request : Request) (frame : Bytes) {timeout : Nat} {s : State}
    (h : 2 ^ s.params.timeW ≤ timeout) : issue request frame timeout s = .next s.refuse :=
  if_pos (Bool.eq_false_iff.2 (mt (fitsTime_iff s.params timeout).1 (Nat.not_lt.2 h)))

theorem exec_issueUpgradeData_of_oversized_chunk (k : U16) {chunk : Bytes} (timeout : U32) (s : State)
    (h : 2048 < chunk.length) : exec (.issueUpgradeData k chunk timeout) s = .next s.refuse :=
  if_neg (mt (fitsChunk_iff chunk).1 (Nat.not_le.2 h))

/-- Settles O40. -/
theorem oversizedOperandsAreRefused : Obligations.OversizedOperandsAreRefused := by
  intro s
  refine ⟨fun k chunk timeout h => exec_issueUpgradeData_of_oversized_chunk k timeout s h, fun timeout h =>
    ⟨fun a t => issue_of_oversized_timeout _ _ h, fun a v t => issue_of_oversized_timeout _ _ h, fun k chunk => ?data,
      fun crc n => issue_of_oversized_timeout _ _ h⟩⟩
  case data =>
    obtain hc | hc := Nat.lt_or_ge 2048 chunk.length
    · exact exec_issueUpgradeData_of_oversized_chunk k timeout s hc
    · exact (if_pos ((fitsChunk_iff chunk).2 hc)).trans (issue_of_oversized_timeout _ _ h)

/-! ### What a pure command depends on -/

/-- R138: what a pure command answers, from its operands and the two parameters; `none` is a refusal (R124, R130, R131), and
what stands for the instructions that are no pure commands is read by nothing. -/
def pureAnswer (crcInit modeTag : U16) : Instr → Option RetVal
  | .crc16 bytes => some (.u16 (crc16 crcInit bytes))
  | .pack value type => some (.bytes (pack value.toNat type))
  | .unpack raw type => some (.value (unpack (toBe32 raw) type))
  | .encode function payload =>
    if fitsLength payload then some (.frame (encodeFrame crcInit function payload)) else none
  | .frameCheck frame => some (.bool (frameCheck crcInit frame))
  | .parseResponse frame aw expected type => some (.result (parseResponse crcInit frame aw expected type))
  | .parseReport payload => some ((parseReport payload).elim (.error .malformed) .records)
  | .buildRead address => some (.frame (buildRead crcInit address))
  | .buildWrite address value type => some (.frame (buildWrite crcInit address value.toNat type))
  | .buildHandshake => some (.frame (buildHandshake crcInit))
  | .buildStatusReply fc sc => some (.frame (buildStatusReply crcInit fc sc))
  | .buildUpgradePacket index chunk =>
    if fitsChunk chunk then some (.frame (buildUpgradePacket crcInit modeTag index chunk)) else none
  | .buildUpgradePackets image =>
    if fitsImage image then some (.frames (buildUpgradePackets crcInit modeTag image)) else none
  | .buildUpgradeCrc image count => some (.frame (buildUpgradeCrc crcInit image count))
  | _ => none

/-- The state after an answer: the value returned, or the refusal. -/
def State.answered (s : State) : Option RetVal → State
  | some v => s.returning v
  | none => s.refuse

/-- A command with an operand limit answers or refuses (R124, R130, R131). -/
theorem next_answered_ite (fits : Bool) (v : RetVal) (s : State) :
    (if fits then .next (s.returning v) else .next s.refuse : StepOutcome) =
      .next (s.answered (if fits then some v else none)) := by
  cases fits <;> rfl

/-- R134: a report that is no sequence of records returns its error. -/
theorem execParseReport_eq (payload : Bytes) (s : State) :
    execParseReport payload s = .next (s.returning ((parseReport payload).elim (.error .malformed) .records)) := by
  unfold execParseReport
  split <;> rename_i h <;> rw [h] <;> rfl

/-- R138: a pure command gives its answer and does nothing else. -/
theorem exec_of_isPure {i : Instr} (h : isPure i = true) (s : State) :
    exec i s = .next (s.answered (pureAnswer s.params.crcInit s.params.upgradeModeTag i)) := by
  cases i
  case encode | buildUpgradePacket | buildUpgradePackets => exact next_answered_ite _ _ s
  case parseReport payload => exact execParseReport_eq payload s
  case crc16 | pack | unpack | frameCheck | parseResponse | buildRead | buildWrite | buildHandshake | buildStatusReply
      | buildUpgradeCrc => rfl
  all_goals cases h

/-- Settles O20. -/
theorem pureCommandsChangeNothing : Obligations.PureCommandsChangeNothing := by
  intro i crcInit modeTag hi
  refine ⟨pureAnswer crcInit modeTag i, fun s hc hm => ?_⟩
  rw [exec_of_isPure hi, hc, hm]
  cases pureAnswer crcInit modeTag i <;> rfl

end Sys2Proof.Machine

/-! SUPPORT. The statements of 40_codec.md on parsing: `PARSE_REPORT` (O18) and `PARSE_RESPONSE` (O19). -/

namespace Sys2Proof

/-! ### Slices -/

/-- A slice of a slice that does not reach behind it. -/
theorem slice_slice (s : Bytes) {i j a b : Nat} (h : i + b ≤ j) : slice (slice s i j) a b = slice s (i + a) (i + b) := by
  rw [slice, slice, slice, List.drop_take, List.drop_drop, List.take_take]
  congr 1
  omega

/-- A slice that begins in the second string. -/
theorem slice_append_right (s t : Bytes) (i j : Nat) : slice (s ++ t) (s.length + i) (s.length + j) = slice t i j := by
  rw [slice, slice, List.drop_append, List.drop_of_length_le (by omega), List.nil_append, Nat.add_sub_cancel_left,
    Nat.add_sub_add_left]

end Sys2Proof

namespace Sys2Proof.Machine

/-! ### PARSE_REPORT -/

/-- R95: a record written out. -/
def recordBytes (r : Record) : Bytes := toBe16 r.1 ++ toBe32 r.2

@[simp] theorem recordBytes_length (r : Record) : (recordBytes r).length = 6 := rfl

/-- R95: a record written out is read back, whatever follows it. -/
theorem reportRecord_zero (r : Record) (p : Bytes) : reportRecord (recordBytes r ++ p) 0 = r := by
  have ha : slice (recordBytes r ++ p) 0 2 = toBe16 r.1 := rfl
  have hv : slice (recordBytes r ++ p) 2 6 = toBe32 r.2 := rfl
  rw [reportRecord, Nat.mul_zero, Nat.zero_add, Nat.zero_add, ha, hv, be16_toBe16, be32_toBe32]

/-- Behind a record the records are numbered anew. -/
theorem reportRecord_succ (r : Record) (p : Bytes) (i : Nat) :
    reportRecord (recordBytes r ++ p) (i + 1) = reportRecord p i := by
  have hs : ∀ k, 6 * (i + 1) + k = (recordBytes r).length + (6 * i + k) := fun k => by rw [recordBytes_length]; omega
  have h0 : 6 * (i + 1) = (recordBytes r).length + 6 * i := hs 0
  rw [reportRecord, hs, hs, h0, slice_append_right, slice_append_right]
  rfl

theorem records_length (rs : List Record) : (rs.flatMap recordBytes).length = 6 * rs.length := by
  induction rs with
  | nil => rfl
  | cons r rs ih => rw [List.flatMap_cons, List.length_append, ih, recordBytes_length, List.length_cons]; omega

/-- Records written out one after another are read back in order. -/
theorem map_reportRecord (rs : List Record) :
    (List.range rs.length).map (reportRecord (rs.flatMap recordBytes)) = rs := by
  induction rs with
  | nil => rfl
  | cons r rs ih =>
    rw [List.length_cons, List.range_succ_eq_map, List.map_cons, List.map_map, List.flatMap_cons, reportRecord_zero]
    conv_rhs => rw [← ih]
    exact congrArg (r :: ·) (List.map_congr_left fun i _ => reportRecord_succ r _ i)

theorem parseReport_of_not_dvd {p : Bytes} (h : p.length % 6 ≠ 0) : parseReport p = none := if_pos h

theorem parseReport_of_dvd {p : Bytes} (h : p.length % 6 = 0) :
    parseReport p = some ((List.range (p.length / 6)).map (reportRecord p)) := if_neg (not_not.2 h)

theorem parseReport_records (rs : List Record) : parseReport (rs.flatMap recordBytes) = some rs := by
  have hl := records_length rs
  rw [parseReport_of_dvd (by omega), show (rs.flatMap recordBytes).length / 6 = rs.length by omega, map_reportRecord]

/-- Settles O18. -/
theorem parseReportReadsRecords : Obligations.ParseReportReadsRecords := by
  refine ⟨fun p s h => ?malformed, fun p s h => ?records, fun rs s => ?written⟩
  case malformed => exact (execParseReport_eq p s).trans (by rw [parseReport_of_not_dvd h]; rfl)
  case records => exact (execParseReport_eq p s).trans (by rw [parseReport_of_dvd h]; rfl)
  case written =>
    exact (execParseReport_eq (rs.flatMap recordBytes) s).trans (by rw [parseReport_records]; rfl)

/-! ### PARSE_RESPONSE

The frame is any byte string: only its CRC was tested, so its fields stand where R80 puts them and its length field is not
read. -/

section
variable {init : U16} {f : Bytes} (aw : Bool) (ea : Option U16) (t : DType)

theorem parseResponse_of_short (h : f.length < 2) : parseResponse init f aw ea t = .error .malformed := if_pos h

theorem parseResponse_of_crc_mismatch (h : 2 ≤ f.length) (hc : frameCheck init f = false) :
    parseResponse init f aw ea t = .error .crcMismatch := by
  rw [parseResponse, if_neg (Nat.not_lt.2 h), if_pos hc]

theorem parseResponse_of_no_frame (h : 2 ≤ f.length) (hc : frameCheck init f = true) (h6 : f.length < 6) :
    parseResponse init f aw ea t = .error .malformed := by
  rw [parseResponse, if_neg (Nat.not_lt.2 h), if_neg (by simp [hc]), if_pos h6]

/-- R133: past the tests of length and CRC the function byte decides. -/
theorem parseResponse_of_checked (h6 : 6 ≤ f.length) (hc : frameCheck init f = true) : parseResponse init f aw ea t =
    if byteAt f 1 = 0x11#8 then parseAckWithData (payloadOf f) aw ea t
    else if byteAt f 1 = 0xF1#8 then parseAckNoData (payloadOf f) aw
    else .error .unknownResponseType := by
  rw [parseResponse, if_neg (by omega), if_neg (by simp [hc]), if_neg (Nat.not_lt.2 h6)]

end

theorem payloadOf_length_eq (f : Bytes) : (payloadOf f).length = f.length - 6 := by
  rw [payloadOf, slice_length]
  omega

/-- Field `[a, b)` of the payload stands four bytes behind in the frame. -/
theorem slice_payloadOf {f : Bytes} {a b : Nat} (h : 4 + b + 2 ≤ f.length) :
    slice (payloadOf f) a b = slice f (4 + a) (4 + b) := slice_slice f (by omega)

theorem byteAt_payloadOf {f : Bytes} {i : Nat} (h : 4 + i + 2 < f.length) : byteAt (payloadOf f) i = byteAt f (4 + i) :=
  byteAt_slice (by omega)

theorem addressDiffers_iff (ea : Option U16) (a : U16) : addressDiffers ea a = true ↔ ∃ x, ea = some x ∧ a ≠ x := by
  cases ea <;> simp [addressDiffers]

/-- R133, the branch of `ACK_WITH_DATA`, read from the frame. -/
theorem parseAckWithData_payloadOf {f : Bytes} (h6 : 6 ≤ f.length) (ea : Option U16) (t : DType) :
    parseAckWithData (payloadOf f) true ea t = .error .unexpectedData ∧
    (f.length ≠ 12 → parseAckWithData (payloadOf f) false ea t = .error .badLength) ∧
    (f.length = 12 → parseAckWithData (payloadOf f) false ea t =
      if addressDiffers ea (be16 (slice f 4 6)) then .error .addressMismatch
      else .readSuccess (be16 (slice f 4 6)) (unpack (slice f 6 10) t)) := by
  have hl := payloadOf_length_eq f
  refine ⟨rfl, fun h => ?_, fun h => ?_⟩
  · rw [parseAckWithData, if_neg (by decide), if_pos (by simp only [Config.ackDataLen]; omega)]
  · rw [parseAckWithData, if_neg (by decide), if_neg (by simp only [Config.ackDataLen]; omega), ackAddress, ackRaw,
      slice_payloadOf (by omega), slice_payloadOf (by omega)]

/-- R133, the branch of `ACK_NO_DATA`, read from the frame. -/
theorem parseAckNoData_payloadOf {f : Bytes} (h6 : 6 ≤ f.length) (aw : Bool) :
    (f.length ≠ 8 → parseAckNoData (payloadOf f) aw = .error .badLength) ∧
    (f.length = 8 → parseAckNoData (payloadOf f) aw =
      if aw = true ∧ byteAt f 5 = 0x00#8 then .statusSuccess 0x00#8 else .error (.deviceError (byteAt f 4) (byteAt f 5))) := by
  have hl := payloadOf_length_eq f
  refine ⟨fun h => ?_, fun h => ?_⟩
  · rw [parseAckNoData, if_pos (by simp only [Config.ackNoDataLen]; omega)]
  · rw [parseAckNoData, if_neg (by simp only [Config.ackNoDataLen]; omega), byteAt_payloadOf (by omega),
      byteAt_payloadOf (by omega)]
    simp only [Bool.and_eq_true, beq_iff_eq]
    split
    · rename_i hok
      rw [hok.2]
    · rfl

/-- Settles O19. -/
theorem parseResponseTestsInOrder : Obligations.ParseResponseTestsInOrder := by
  refine ⟨fun f aw ea t s => rfl, fun init f aw ea t => ⟨parseResponse_of_short aw ea t, parseResponse_of_crc_mismatch aw ea t,
    parseResponse_of_no_frame aw ea t, fun h6 hc => ?_⟩⟩
  obtain ⟨hunexpected, hbad, hdata⟩ := parseAckWithData_payloadOf h6 ea t
  obtain ⟨hbadStatus, hstatus⟩ := parseAckNoData_payloadOf h6 aw
  rw [parseResponse_of_checked aw ea t h6 hc]
  refine ⟨fun h11 => ?withData, fun hF1 => ?noData, fun h11 hF1 => by rw [if_neg h11, if_neg hF1]⟩
  case withData =>
    rw [if_pos h11]
    refine ⟨?_, ?_, ?_, ?_⟩
    · rintro rfl
      exact hunexpected
    · rintro rfl h
      exact hbad h
    · rintro rfl h hne
      rw [hdata h, if_pos ((addressDiffers_iff _ _).2 hne)]
    · rintro rfl h heq
      rw [hdata h, if_neg]
      rw [addressDiffers_iff]
      rintro ⟨x, hx, hne⟩
      exact hne (heq x hx)
  case noData =>
    rw [if_neg (by rw [hF1]; decide), if_pos hF1]
    exact ⟨hbadStatus, fun h haw hs => by rw [hstatus h, if_pos ⟨haw, hs⟩], fun h hne => by rw [hstatus h, if_neg hne]⟩

end Sys2Proof.Machine

/-! SUPPORT. The statements of 41_reassembler.md on the pass: what a trip does (O21), that the pass ends (O22), the frames of a
stream however it is cut (O24, O25), the pass after one more byte (O26). -/

namespace Sys2Proof.Machine

/-! ### A trip, step by step -/

/-- S3 (R164): the bytes before the first head are dropped, and where there are none nothing is. -/
def dropPrefix (g : Bytes) : List Action := if g = [] then [] else [.drop .beforeHead g.length]

@[simp] theorem cutFrames_dropPrefix (g : Bytes) : cutFrames (dropPrefix g) = [] := by
  unfold dropPrefix
  split <;> rfl

theorem trip_of_short {buf : Bytes} (h : buf.length < 6) : trip buf = .stop [] buf := if_pos h

theorem trip_of_no_head {buf : Bytes} (h6 : 6 ≤ buf.length) (h : Config.head ∉ buf) :
    trip buf = .stop [.drop .noHead buf.length] [] := by
  have hn : headFrom 0 buf = none := headFrom_none.2 h
  rw [trip, if_neg (Nat.not_lt.2 h6), hn]

/-- S2, S3: the trip goes on at the first head. -/
theorem trip_append_head {g rest : Bytes} (h : Config.head ∉ g) (h6 : 6 ≤ (g ++ Config.head :: rest).length) :
    trip (g ++ Config.head :: rest) = tripAtHead (dropPrefix g) (Config.head :: rest) := by
  rw [trip, if_neg (Nat.not_lt.2 h6), headFrom_zero_append h]
  cases g with
  | nil => rfl
  | cons b g => simp [dropPrefix]

theorem eq_cons_of_byteAt_zero {buf : Bytes} (h0 : byteAt buf 0 = Config.head) : ∃ rest, buf = Config.head :: rest := by
  cases buf with
  | nil => exact absurd h0 (by decide)
  | cons b rest => exact ⟨rest, congrArg (· :: rest) h0⟩

theorem trip_of_head {buf : Bytes} (h6 : 6 ≤ buf.length) (h0 : byteAt buf 0 = Config.head) : trip buf = tripAtHead [] buf := by
  obtain ⟨rest, rfl⟩ := eq_cons_of_byteAt_zero h0
  exact trip_append_head (g := []) (by simp) h6

section
variable (acts : List Action) {buf : Bytes}

theorem tripAtHead_of_short (h : buf.length < 6) : tripAtHead acts buf = .stop acts buf := if_pos h

theorem tripAtHead_of_not_recognised (h6 : 6 ≤ buf.length) (hr : recognised (byteAt buf 1) = false) :
    tripAtHead acts buf = tripBadFunction acts buf := by
  rw [tripAtHead, if_neg (Nat.not_lt.2 h6), if_neg (by simp [hr])]

theorem tripAtHead_of_partial (h6 : 6 ≤ buf.length) (hr : recognised (byteAt buf 1) = true)
    (ht : buf.length < frameTotal buf) : tripAtHead acts buf = .stop acts buf := by
  rw [tripAtHead, if_neg (Nat.not_lt.2 h6), if_pos hr, tripCut, if_pos ht]

theorem tripAtHead_of_whole (hr : recognised (byteAt buf 1) = true) (ht : frameTotal buf ≤ buf.length) :
    tripAtHead acts buf = .again (acts ++ [.cut (buf.take (frameTotal buf))]) (buf.drop (frameTotal buf)) := by
  have h6 := (frameTotal_pos buf).trans ht
  rw [tripAtHead, if_neg (Nat.not_lt.2 h6), if_pos hr, tripCut, if_neg (Nat.not_lt.2 ht)]

/-- R166: with no later head everything is dropped. -/
theorem tripBadFunction_of_no_head (b : Byte) {rest : Bytes} (h : Config.head ∉ rest) :
    tripBadFunction acts (b :: rest) = .stop (acts ++ [.drop .badFunction (b :: rest).length]) [] := by
  have hn : headFrom 1 (b :: rest) = none := headFrom_none.2 h
  rw [tripBadFunction, hn]

/-- R166: everything up to the next head is dropped. -/
theorem tripBadFunction_append_head (b : Byte) {g rest : Bytes} (h : Config.head ∉ g) :
    tripBadFunction acts (b :: (g ++ Config.head :: rest)) =
      .again (acts ++ [.drop .badFunction (1 + g.length)]) (Config.head :: rest) := by
  rw [tripBadFunction, headFrom_one_append h, Nat.add_comm 1]
  simp

end

/-- Settles O21: S2 and S3 first, then S4 to S7 at the head. -/
theorem passFollowsItsSteps : Obligations.PassFollowsItsSteps := by
  refine ⟨fun _ => trip_of_short, fun _ => trip_of_no_head, fun g rest hg h6 => ?_⟩
  have hs := trip_append_head hg h6
  refine ⟨fun hl => hs.trans (tripAtHead_of_short _ hl), ?_, ?_, fun hl hr ht => hs.trans (tripAtHead_of_partial _ hl hr ht),
    fun _ hr ht => hs.trans (tripAtHead_of_whole _ hr ht)⟩
  · intro hl hr hn
    exact hs.trans ((tripAtHead_of_not_recognised _ hl hr).trans (tripBadFunction_of_no_head _ _ hn))
  · rintro hl hr g' rest' hg' rfl
    exact hs.trans ((tripAtHead_of_not_recognised _ hl hr).trans (tripBadFunction_append_head _ _ hg'))

/-! ### The end of a pass -/

theorem trip_of_waiting {buf : Bytes} (h : Waiting buf) : trip buf = .stop [] buf := by
  by_cases h6 : buf.length < 6
  · exact trip_of_short h6
  · obtain hs | ⟨h0, hr, ht⟩ := h
    · exact absurd hs h6
    · rw [trip_of_head (Nat.not_lt.1 h6) h0, tripAtHead_of_partial _ (Nat.not_lt.1 h6) hr ht]

/-- Nothing happens to a buffer that waits. -/
theorem passTrips_of_waiting (n : Nat) {buf : Bytes} (h : Waiting buf) : passTrips n buf = ([], buf) := by
  cases n with
  | zero => rfl
  | succ n => rw [passTrips, trip_of_waiting h]

theorem runPass_of_waiting {buf : Bytes} (h : Waiting buf) : runPass buf = ([], buf) := passTrips_of_waiting _ h

/-- R176: every trip that goes on removes a byte. -/
theorem trip_again_length {buf rest : Bytes} {acts : List Action} (h : trip buf = .again acts rest) :
    rest.length < buf.length := by
  have hp := trip_progress buf
  rwa [h] at hp

/-- R176: a trip beyond as many as there are bytes changes nothing. -/
theorem passTrips_succ_of_length_le {n : Nat} {buf : Bytes} (h : buf.length ≤ n) :
    passTrips (n + 1) buf = passTrips n buf := by
  induction n generalizing buf with
  | zero => exact passTrips_of_waiting 1 (waiting_of_short (by omega))
  | succ n ih =>
    cases ht : trip buf with
    | stop acts rest => simp only [passTrips, ht]
    | again acts rest =>
      have hlt := trip_again_length ht
      rw [passTrips, passTrips, ht]
      simp only [ih (show rest.length ≤ n by omega)]

/-- R176: as many trips as bytes are enough. -/
theorem passTrips_length_add (buf : Bytes) (k : Nat) : passTrips (buf.length + k) buf = passTrips buf.length buf := by
  induction k with
  | zero => rfl
  | succ k ih => rw [← Nat.add_assoc, passTrips_succ_of_length_le (Nat.le_add_right _ _), ih]

/-- Settles O22. -/
theorem passEnds : Obligations.PassEnds := by
  refine ⟨fun _ _ _ => trip_again_length, fun buf k => ?_, fun buf => runPass_of_waiting (passLeavesWaiting buf)⟩
  rw [runPass, passTrips_length_add, passTrips_length_add]

/-! ### The frames of a stream

The pass drops garbage in runs whose ends depend on how much of the stream has come. The frames do not: they are those found
by going through the stream byte by byte and cutting wherever a head has a recognised code behind it. -/

/-- The candidate frames of a byte string, skipping one byte wherever no frame begins. -/
def framesIn (buf : Bytes) : List Bytes :=
  if buf.length < 6 then []
  else if byteAt buf 0 = Config.head ∧ recognised (byteAt buf 1) = true then
    if buf.length < frameTotal buf then []
    else buf.take (frameTotal buf) :: framesIn (buf.drop (frameTotal buf))
  else framesIn (buf.drop 1)
termination_by buf.length
decreasing_by
  · have ht := frameTotal_pos buf
    rw [List.length_drop]
    omega
  · rw [List.length_drop]
    omega

theorem framesIn_of_short {buf : Bytes} (h : buf.length < 6) : framesIn buf = [] := by rw [framesIn, if_pos h]

@[simp] theorem framesIn_nil : framesIn [] = [] := framesIn_of_short (by decide)

/-- A buffer that waits holds no whole frame. -/
theorem framesIn_of_waiting {buf : Bytes} (h : Waiting buf) : framesIn buf = [] := by
  by_cases h6 : buf.length < 6
  · exact framesIn_of_short h6
  · obtain hs | ⟨h0, hr, ht⟩ := h
    · exact absurd hs h6
    · rw [framesIn, if_neg h6, if_pos ⟨h0, hr⟩, if_pos ht]

/-- R163, R166: a byte that is no head, or a head without a recognised code behind it, begins no frame. -/
theorem framesIn_drop_one {buf : Bytes} (h : byteAt buf 0 = Config.head → recognised (byteAt buf 1) = false) :
    framesIn buf = framesIn (buf.drop 1) := by
  by_cases h6 : buf.length < 6
  · rw [framesIn_of_short h6, framesIn_of_short (by rw [List.length_drop]; omega)]
  · rw [framesIn, if_neg h6, if_neg]
    rintro ⟨h0, hr⟩
    exact absurd ((h h0).symm.trans hr) (by decide)

/-- R169: a candidate frame at the front is cut, whatever follows. -/
theorem framesIn_candidate_append {f : Bytes} (h : Candidate f) (rest : Bytes) :
    framesIn (f ++ rest) = f :: framesIn rest := by
  obtain ⟨hw, hr⟩ := h
  obtain ⟨h6, h0, hl⟩ := (wellFramed_iff f).1 hw
  have ht : frameTotal (f ++ rest) = f.length := (frameTotal_append h6).trans hl.symm
  have b0 : byteAt (f ++ rest) 0 = Config.head := (byteAt_append_left (by omega)).trans h0
  have b1 : byteAt (f ++ rest) 1 = byteAt f 1 := byteAt_append_left (by omega)
  rw [framesIn, if_neg (by simp; omega), if_pos ⟨b0, b1 ▸ hr⟩, if_neg (by simp [ht]), ht, List.take_left, List.drop_left]

/-- R169: what S7 cuts is a candidate frame. -/
theorem candidate_take {buf : Bytes} (h0 : byteAt buf 0 = Config.head) (hr : recognised (byteAt buf 1) = true)
    (ht : frameTotal buf ≤ buf.length) : Candidate (buf.take (frameTotal buf)) := by
  have h6 := frameTotal_pos buf
  have hl : (buf.take (frameTotal buf)).length = frameTotal buf := List.length_take_of_le ht
  have htake : frameTotal (buf.take (frameTotal buf)) = frameTotal buf := by
    rw [← frameTotal_append (rest := buf.drop (frameTotal buf)) (by omega), List.take_append_drop]
  refine ⟨(wellFramed_iff _).2 ⟨by omega, by rw [byteAt_take (by omega), h0], hl.trans htake.symm⟩, ?_⟩
  rw [byteAt_take (by omega), hr]

/-! ### Garbage -/

theorem harmless_nil (next : Bytes) : Harmless [] next := fun _ h => absurd h (Nat.not_lt_zero _)

theorem harmless_cons {b : Byte} {g next : Bytes} :
    Harmless (b :: g) next ↔ (b = Config.head → recognised (byteAt (g ++ next) 0) = false) ∧ Harmless g next :=
  Nat.forall_lt_succ_left

theorem harmless_of_no_head {g : Bytes} (next : Bytes) (h : Config.head ∉ g) : Harmless g next := by
  induction g with
  | nil => exact harmless_nil next
  | cons b g ih =>
    rw [List.mem_cons, not_or] at h
    exact harmless_cons.2 ⟨fun hb => absurd hb.symm h.1, ih h.2⟩

/-- What stands behind the garbage matters by its first byte alone. -/
theorem Harmless.append {g next : Bytes} (h : Harmless g next) (hn : next ≠ []) (more : Bytes) : Harmless g (next ++ more) := by
  intro i hi hb
  have hpos := List.length_pos_iff.2 hn
  rw [← List.append_assoc, byteAt_append_left (by simp; omega)]
  exact h i hi hb

/-- R178: harmless garbage holds no frame and hides none. -/
theorem framesIn_append_of_harmless {g next : Bytes} (h : Harmless g next) : framesIn (g ++ next) = framesIn next := by
  induction g with
  | nil => rfl
  | cons b g ih =>
    obtain ⟨hb, hg⟩ := harmless_cons.1 h
    exact (framesIn_drop_one (buf := b :: (g ++ next)) hb).trans (ih hg)

/-- R166: a head with an unrecognised code behind it is garbage, up to the next head. -/
theorem framesIn_append_of_bad_function {g next : Bytes} (hg : Config.head ∉ g)
    (hr : recognised (byteAt (g ++ next) 0) = false) : framesIn (Config.head :: (g ++ next)) = framesIn next :=
  framesIn_append_of_harmless (harmless_cons.2 ⟨fun _ => hr, harmless_of_no_head next hg⟩)

/-! ### The pass cuts the frames of the stream -/

/-- S4 to S7 cut what frame there is at the head, and what they leave holds the other frames, whatever follows. -/
theorem framesIn_append_tripAtHead {acts : List Action} (ha : cutFrames acts = []) (rest more : Bytes) :
    framesIn (Config.head :: rest ++ more) =
      cutFrames (tripAtHead acts (Config.head :: rest)).result.1 ++
        framesIn ((tripAtHead acts (Config.head :: rest)).result.2 ++ more) := by
  by_cases h6 : (Config.head :: rest).length < 6
  · rw [tripAtHead_of_short _ h6]
    simp [Trip.result, ha]
  have hl := Nat.not_lt.1 h6
  cases hr : recognised (byteAt (Config.head :: rest) 1) with
  | false =>
    have hb : recognised (byteAt (rest ++ more) 0) = false := by
      rw [byteAt_append_left (by simp at hl; omega)]
      exact hr
    rw [tripAtHead_of_not_recognised _ hl hr]
    obtain hn | ⟨g, rest', hg, rfl⟩ := head_cases rest
    · rw [tripBadFunction_of_no_head _ _ hn, List.cons_append, framesIn_append_of_bad_function hn hb]
      simp [Trip.result, ha, cutFrames]
    · rw [List.append_assoc] at hb
      rw [tripBadFunction_append_head _ _ hg, List.cons_append, List.append_assoc, framesIn_append_of_bad_function hg hb]
      simp [Trip.result, ha, cutFrames]
  | true =>
    by_cases ht : (Config.head :: rest).length < frameTotal (Config.head :: rest)
    · rw [tripAtHead_of_partial _ hl hr ht]
      simp [Trip.result, ha]
    · have ht := Nat.not_lt.1 ht
      rw [tripAtHead_of_whole _ hr ht]
      conv_lhs => rw [← List.take_append_drop (frameTotal (Config.head :: rest)) (Config.head :: rest), List.append_assoc]
      rw [framesIn_candidate_append (candidate_take rfl hr ht)]
      simp [Trip.result, ha, cutFrames]

/-- What a trip cuts stands before the frames in what it leaves, whatever follows. -/
theorem framesIn_append_trip (buf more : Bytes) :
    framesIn (buf ++ more) = cutFrames (trip buf).result.1 ++ framesIn ((trip buf).result.2 ++ more) := by
  by_cases h6 : buf.length < 6
  · rw [trip_of_short h6]
    rfl
  have hl := Nat.not_lt.1 h6
  obtain hn | ⟨g, rest, hg, rfl⟩ := head_cases buf
  · rw [trip_of_no_head hl hn, framesIn_append_of_harmless (harmless_of_no_head more hn)]
    rfl
  · rw [trip_append_head hg hl, List.append_assoc, framesIn_append_of_harmless (harmless_of_no_head _ hg)]
    exact framesIn_append_tripAtHead (cutFrames_dropPrefix g) rest more

theorem framesIn_append_passTrips (n : Nat) (buf more : Bytes) :
    framesIn (buf ++ more) = cutFrames (passTrips n buf).1 ++ framesIn ((passTrips n buf).2 ++ more) := by
  induction n generalizing buf with
  | zero => rfl
  | succ n ih =>
    have ht := framesIn_append_trip buf more
    rw [passTrips]
    split <;> rename_i acts rest he <;> rw [he] at ht
    · exact ht
    · rw [ht, cutFrames_append, List.append_assoc]
      exact congrArg (cutFrames acts ++ ·) (ih rest)

/-- A pass before the rest of the stream comes loses no frame and makes none. -/
theorem framesIn_append_runPass (buf more : Bytes) :
    framesIn (buf ++ more) = cutFrames (runPass buf).1 ++ framesIn ((runPass buf).2 ++ more) :=
  framesIn_append_passTrips _ buf more

/-- The frames that a pass cuts are those in its buffer. -/
theorem cutFrames_runPass (buf : Bytes) : cutFrames (runPass buf).1 = framesIn buf := by
  have h := framesIn_append_runPass buf []
  rw [List.append_nil, List.append_nil, framesIn_of_waiting (passLeavesWaiting buf), List.append_nil] at h
  exact h.symm

/-! ### Streams in chunks -/

/-- Between chunks the waiting invariant holds (R35 item 1). -/
theorem feed_waiting (chunks : List Bytes) {buf : Bytes} (h : Waiting buf) : Waiting (feed buf chunks).2 := by
  induction chunks generalizing buf with
  | nil => exact h
  | cons c cs ih => exact ih (passLeavesWaiting (buf ++ c))

theorem feed_suffix (chunks : List Bytes) (buf : Bytes) : (feed buf chunks).2 <:+ buf ++ chunks.flatten := by
  induction chunks generalizing buf with
  | nil => exact (List.append_nil buf).symm ▸ List.suffix_rfl
  | cons c cs ih =>
    obtain ⟨dropped, hd⟩ := runPass_suffix (buf ++ c)
    have hs : (runPass (buf ++ c)).2 ++ cs.flatten <:+ buf ++ (c :: cs).flatten :=
      ⟨dropped, by rw [← List.append_assoc, hd, List.flatten_cons, List.append_assoc]⟩
    exact (ih _).trans hs

/-- R177: fed in chunks to a buffer that waits, the frames cut are those of the whole. -/
theorem cutFrames_feed (chunks : List Bytes) {buf : Bytes} (h : Waiting buf) :
    cutFrames (feed buf chunks).1 = framesIn (buf ++ chunks.flatten) := by
  induction chunks generalizing buf with
  | nil => rw [List.flatten_nil, List.append_nil, framesIn_of_waiting h]; rfl
  | cons c cs ih =>
    rw [feed, cutFrames_append, ih (passLeavesWaiting (buf ++ c)), List.flatten_cons, ← List.append_assoc,
      framesIn_append_runPass (buf ++ c)]

theorem waiting_nil : Waiting [] := waiting_of_short (by decide)

/-- Settles O24: every chunking cuts the frames in the stream, and so does one pass over it. -/
theorem chunkingDoesNotMatter : Obligations.ChunkingDoesNotMatter := by
  intro chunks
  have hbytes : (chunks.flatten.map fun b => [b]).flatten = chunks.flatten := List.flatMap_singleton' _
  refine ⟨?_, ?_, feed_suffix chunks [], runPass_of_waiting (feed_waiting chunks waiting_nil)⟩
  · rw [cutFrames_feed chunks waiting_nil, cutFrames_runPass, List.nil_append]
  · rw [cutFrames_feed _ waiting_nil, cutFrames_runPass, hbytes, List.nil_append]

/-! ### Frames with garbage between them -/

theorem Candidate.six_le {f : Bytes} (h : Candidate f) : 6 ≤ f.length := ((wellFramed_iff f).1 h.1).1

/-- R178: of candidate frames behind harmless garbage, just the frames are found. -/
theorem framesIn_parts {parts : List (Bytes × Bytes)} (h : ∀ x ∈ parts, Candidate x.2 ∧ Harmless x.1 x.2) :
    framesIn (parts.flatMap fun x => x.1 ++ x.2) = parts.map Prod.snd := by
  induction parts with
  | nil => exact framesIn_nil
  | cons x parts ih =>
    rw [List.forall_mem_cons] at h
    obtain ⟨⟨hc, hg⟩, hparts⟩ := h
    have hne : x.2 ≠ [] := List.ne_nil_of_length_pos (Nat.lt_of_lt_of_le (by decide) hc.six_le)
    rw [List.flatMap_cons, List.append_assoc, framesIn_append_of_harmless (hg.append hne _), framesIn_candidate_append hc,
      ih hparts, List.map_cons]

/-- R178, R109: a head, `READ` and the length 65535 wait for 65541 bytes. -/
theorem longest_frame_waits {rest : Bytes} (h : 4 + rest.length < 65541) :
    Waiting ([0x5A#8, 0x10#8, 0xFF#8, 0xFF#8] ++ rest) := by
  have hs : slice ([0x5A#8, 0x10#8, 0xFF#8, 0xFF#8] ++ rest) 2 4 = [0xFF#8, 0xFF#8] := rfl
  have ht : frameTotal ([0x5A#8, 0x10#8, 0xFF#8, 0xFF#8] ++ rest) = 65541 := by
    rw [frameTotal, lengthField, hs]
    rfl
  refine .inr ⟨rfl, rfl, ?_⟩
  rw [ht, List.length_append]
  exact h

/-- Settles O25. -/
theorem framesThroughGarbage : Obligations.FramesThroughGarbage := by
  refine ⟨fun parts chunks hp hc => ?_, fun rest h => runPass_of_waiting (longest_frame_waits h)⟩
  rw [cutFrames_feed chunks waiting_nil, List.nil_append, hc, framesIn_parts hp]

/-! ### One more byte -/

/-- R169: a pass over a candidate frame cuts it and is over. -/
theorem runPass_of_candidate {f : Bytes} (h : Candidate f) : runPass f = ([.cut f], []) := by
  obtain ⟨_, h0, hl⟩ := (wellFramed_iff f).1 h.1
  have ht : frameTotal f = f.length := hl.symm
  have hc := tripAtHead_of_whole [] h.2 ht.le
  rw [ht, List.take_length, List.drop_length, ← trip_of_head h.six_le h0] at hc
  rw [runPass, passTrips, hc]
  simp only [passTrips_of_waiting _ waiting_nil]
  rfl

/-- R168: what begins as a frame and is no longer than it, waits or is the frame. -/
theorem candidate_or_waiting {buf : Bytes} (h6 : 6 ≤ buf.length) (h0 : byteAt buf 0 = Config.head)
    (hr : recognised (byteAt buf 1) = true) (ht : buf.length ≤ frameTotal buf) : Candidate buf ∨ Waiting buf := by
  obtain hlt | heq := Nat.lt_or_eq_of_le ht
  · exact .inr (.inr ⟨h0, hr, hlt⟩)
  · exact .inl ⟨(wellFramed_iff buf).2 ⟨h6, h0, heq⟩, hr⟩

/-- R160's corner case: one byte behind a buffer that waits completes the frame that the buffer begins, or no frame. -/
theorem waiting_append_byte {buf : Bytes} (h : Waiting buf) (b : Byte) :
    Candidate (buf ++ [b]) ∨ framesIn (buf ++ [b]) = [] := by
  have hl : (buf ++ [b]).length = buf.length + 1 := List.length_append
  by_cases h6 : (buf ++ [b]).length < 6
  · exact .inr (framesIn_of_short h6)
  by_cases h5 : buf.length < 6
  · by_cases hf : byteAt (buf ++ [b]) 0 = Config.head ∧ recognised (byteAt (buf ++ [b]) 1) = true
    · have ht := frameTotal_pos (buf ++ [b])
      exact (candidate_or_waiting (Nat.not_lt.1 h6) hf.1 hf.2 (by omega)).imp_right framesIn_of_waiting
    · rw [framesIn_drop_one fun h0 => Bool.eq_false_iff.2 fun hr => hf ⟨h0, hr⟩]
      exact .inr (framesIn_of_short (by rw [List.length_drop]; omega))
  · obtain hs | ⟨h0, hr, ht⟩ := h
    · exact absurd hs h5
    · rw [← byteAt_append_left (t := [b]) (by omega)] at h0 hr
      rw [← frameTotal_append (rest := [b]) (Nat.not_lt.1 h5)] at ht
      exact (candidate_or_waiting (Nat.not_lt.1 h6) h0 hr (by omega)).imp_right framesIn_of_waiting

/-- Settles O26. -/
theorem oneFramePerByte : Obligations.OneFramePerByte := by
  intro buf b h
  obtain hc | hn := waiting_append_byte h b
  · rw [runPass_of_candidate hc]
    exact .inr ⟨_, hc, rfl, rfl⟩
  · rw [cutFrames_runPass]
    exact .inl hn

end Sys2Proof.Machine

/-! SUPPORT. The statements of 41_reassembler.md on the intake of a byte (O27, O28) and on the frame types (O29, O30, O31,
O33). -/

namespace Sys2Proof.Machine

/-! ### RX_PUSH -/

@[simp] theorem runActions_inbox (acts : List Action) (s : State) : (runActions s acts).inbox = s.inbox := by
  obtain ⟨_, ⟨_, _, _, _, rfl⟩, h⟩ := runActions_touched acts s
  rw [h, State.dropBytes_inbox]

/-- R267 (a): where no frame is cut, the actions shorten the buffer and emit their discards. -/
theorem runActions_of_no_cut {acts : List Action} (h : cutFrames acts = []) (s : State) :
    runActions s acts = { s with
      rxbuf := s.rxbuf.drop (actionsSize acts)
      events := s.events ++ dropEvents acts } := by
  induction acts generalizing s with
  | nil => simp [runActions, dropEvents]
  | cons a acts ih =>
    cases a with
    | cut f => cases h
    | drop reason n =>
      have hs : runActions s (.drop reason n :: acts) = runActions (s.streamError reason n) acts := rfl
      rw [hs, ih h]
      simp [State.streamError, State.emit, State.dropBytes, dropEvents, Action.size]

/-- Settles O27. -/
theorem rxPushRunsAPass : Obligations.RxPushRunsAPass := by
  intro b s
  refine ⟨_, exec_rxPush b s, rfl, runActions_runPass_rxbuf (s.pushByte b), runActions_nextId _ _,
    runActions_now _ _, runActions_params _ _, runActions_inbox _ _, fun hn => ?_⟩
  rw [runActions_of_no_cut hn]
  exact ⟨rfl, rfl, rfl, rfl⟩

theorem decodeFrame_candidate {f : Bytes} {i : Instr} (h : decodeFrame f = some i) : Candidate f ∧ isFrame i = true := by
  obtain ⟨hw, mk, hm, rfl⟩ := decodeFrame_cases h
  exact ⟨⟨hw, (recognised_iff_frameType _).2 ⟨mk, hm⟩⟩, isFrame_frameType hm _ _⟩

/-- R169: a frame that is the whole buffer is dispatched and leaves the buffer empty. -/
theorem runAction_cut_whole {s : State} {f : Bytes} (h : s.rxbuf = f) :
    runAction s (.cut f) = { dispatch f s with rxbuf := [] } := by
  have hr : (dispatch f s).rxbuf.drop f.length = [] := by rw [dispatch_rxbuf, h, List.drop_length]
  rw [runAction, State.dropBytes, hr]

/-- Settles O28: the pass over a candidate frame is its cut, and the frame's instruction is its dispatch. -/
theorem rxPushRunsTheFrame : Obligations.RxPushRunsTheFrame := by
  intro b s i hd
  obtain ⟨hc, hi⟩ := decodeFrame_candidate hd
  obtain ⟨he, _⟩ := encode_of_decodeFrame hd
  refine ⟨_, exec_frame hi _, ?_⟩
  have hrun : runActions (s.pushByte b) [.cut (s.rxbuf ++ [b])] =
      { dispatch (s.rxbuf ++ [b]) (s.pushByte b) with rxbuf := [] } := runAction_cut_whole (s.pushByte_rxbuf b)
  rw [exec_rxPush, runPass_of_candidate hc, hrun, he]
  rfl

/-! ### The dispatch of a frame, branch by branch -/

section
variable {f : Bytes} {s : State}

/-- R170: only `CONNECT` and `MCU_RESET` are offered. -/
theorem dispatch_of_not_offered (h : ¬ (byteAt f 1 = 0xE0#8 ∨ byteAt f 1 = 0xF0#8)) : dispatch f s = dispatchChecked f s :=
  if_neg h

theorem dispatch_of_consumed (h : byteAt f 1 = 0xE0#8 ∨ byteAt f 1 = 0xF0#8)
    (hv : s.verdict f (frameCheck s.params.crcInit f) = true) :
    dispatch f s = s.offer f (frameCheck s.params.crcInit f) := by
  rw [dispatch, if_pos h, dispatchOffered, if_pos hv]

theorem dispatch_of_declined (h : byteAt f 1 = 0xE0#8 ∨ byteAt f 1 = 0xF0#8)
    (hv : s.verdict f (frameCheck s.params.crcInit f) = false) :
    dispatch f s = dispatchChecked f (s.offer f (frameCheck s.params.crcInit f)) := by
  rw [dispatch, if_pos h, dispatchOffered, if_neg (by simp [hv])]

/-- R172. -/
theorem dispatchChecked_of_damaged (hc : frameCheck s.params.crcInit f = false) :
    dispatchChecked f s = s.frameError .crcMismatch f := if_pos hc

/-- R173. -/
theorem dispatchChecked_of_ack (hc : frameCheck s.params.crcInit f = true) (h : byteAt f 1 = 0x11#8 ∨ byteAt f 1 = 0xF1#8) :
    dispatchChecked f s = correlate f s := by
  rw [dispatchChecked, if_neg (by simp [hc]), if_pos h]

/-- R174. -/
theorem dispatchChecked_of_report (hc : frameCheck s.params.crcInit f = true)
    (ha : ¬ (byteAt f 1 = 0x11#8 ∨ byteAt f 1 = 0xF1#8))
    (h : byteAt f 1 = 0x40#8 ∨ byteAt f 1 = 0x50#8 ∨ byteAt f 1 = 0x60#8) :
    dispatchChecked f s = dispatchReport f s := by
  rw [dispatchChecked, if_neg (by simp [hc]), if_neg ha, if_pos h]

/-- R172, R175: a frame that is neither an acknowledgement nor a report is discarded, whether its CRC holds or not. -/
theorem dispatchChecked_of_unhandled (ha : ¬ (byteAt f 1 = 0x11#8 ∨ byteAt f 1 = 0xF1#8))
    (hr : ¬ (byteAt f 1 = 0x40#8 ∨ byteAt f 1 = 0x50#8 ∨ byteAt f 1 = 0x60#8)) :
    dispatchChecked f s =
      s.frameError (if frameCheck s.params.crcInit f = true then .unknownResponseType else .crcMismatch) f := by
  cases hc : frameCheck s.params.crcInit f with
  | false => exact dispatchChecked_of_damaged hc
  | true => rw [dispatchChecked, if_neg (by simp [hc]), if_neg ha, if_neg hr]; rfl

/-- R197: the oldest match is completed and leaves the table. -/
theorem correlate_of_oldest {older newer : List Entry} {e : Entry} (hp : s.pend = older ++ e :: newer)
    (ho : ∀ x ∈ older, matchesFrame f x = false) (he : matchesFrame f e = true) :
    correlate f s = { s with
      pend := older ++ newer
      events := s.events ++ [.completion e.id (responseFor s.params.crcInit f e)] } := by
  have hfind : s.pend.find? (matchesFrame f) = some e :=
    List.find?_eq_some_iff_append.2 ⟨he, older, newer, hp, fun x hx => by simp [ho x hx]⟩
  have hpend : s.pend.erase e = older ++ newer := by rw [hp, erase_oldest ho he]
  simp only [correlate, hfind, State.complete, State.emit, hpend]

/-- R197: with no match the frame is discarded. -/
theorem correlate_of_unmatched (h : ∀ x ∈ s.pend, matchesFrame f x = false) :
    correlate f s = s.frameError .unmatched f := by
  have hfind : s.pend.find? (matchesFrame f) = none := List.find?_eq_none.2 fun x hx => by simp [h x hx]
  simp only [correlate, hfind]

end

/-- R267 (b) for the bytes of a frame: a `Discard` of as many bytes. -/
theorem frameError_frameBytes (s : State) (reason : Reason) (fn : Byte) (p : Bytes) (c : U16) :
    s.frameError reason (frameBytes fn p c) = { s with events := s.events ++ [.discard reason (6 + p.length)] } := by
  rw [State.frameError, frameBytes_length]
  rfl

/-! ### The frame types -/

section
variable {i : Instr} {fn : Byte} {p : Bytes} {c : U16}

/-- R172, R175 for the frame types that no handler takes. -/
theorem dispatchChecked_frameBytes_of_unhandled (ha : ¬ (fn = 0x11#8 ∨ fn = 0xF1#8))
    (hr : ¬ (fn = 0x40#8 ∨ fn = 0x50#8 ∨ fn = 0x60#8)) (s : State) :
    dispatchChecked (frameBytes fn p c) s = { s with events := s.events ++
      [.discard (if frameCheck s.params.crcInit (frameBytes fn p c) = true then .unknownResponseType else .crcMismatch)
        (6 + p.length)] } := by
  rw [dispatchChecked_of_unhandled (by rwa [byteAt_frameBytes_one]) (by rwa [byteAt_frameBytes_one]),
    frameError_frameBytes]

theorem exec_unhandled (hi : isFrame i = true) (he : encode i = frameBytes fn p c) (ho : ¬ (fn = 0xE0#8 ∨ fn = 0xF0#8))
    (ha : ¬ (fn = 0x11#8 ∨ fn = 0xF1#8)) (hr : ¬ (fn = 0x40#8 ∨ fn = 0x50#8 ∨ fn = 0x60#8)) (s : State) :
    exec i s = .next { s with events := s.events ++
      [.discard (if frameCheck s.params.crcInit (encode i) = true then .unknownResponseType else .crcMismatch)
        (6 + p.length)] } := by
  rw [exec_frame hi, he, dispatch_of_not_offered (by rwa [byteAt_frameBytes_one]),
    dispatchChecked_frameBytes_of_unhandled ha hr]

/-- R171: an offered frame that is consumed. -/
theorem exec_consumed (hi : isFrame i = true) (he : encode i = frameBytes fn p c) (ho : fn = 0xE0#8 ∨ fn = 0xF0#8)
    {s : State} (hv : s.verdict (encode i) (frameCheck s.params.crcInit (encode i)) = true) :
    exec i s = .next (s.offer (encode i) (frameCheck s.params.crcInit (encode i))) := by
  rw [exec_frame hi, dispatch_of_consumed (by rwa [he, byteAt_frameBytes_one]) hv]

/-- R171: an offered frame that is declined has no other handler. -/
theorem exec_declined (hi : isFrame i = true) (he : encode i = frameBytes fn p c) (ho : fn = 0xE0#8 ∨ fn = 0xF0#8)
    {s : State} (hv : s.verdict (encode i) (frameCheck s.params.crcInit (encode i)) = false) :
    exec i s = .next { s.offer (encode i) (frameCheck s.params.crcInit (encode i)) with
      events := (s.offer (encode i) (frameCheck s.params.crcInit (encode i))).events ++
        [.discard (if frameCheck s.params.crcInit (encode i) = true then .unknownResponseType else .crcMismatch)
          (6 + p.length)] } := by
  have ha : ¬ (fn = 0x11#8 ∨ fn = 0xF1#8) := by obtain rfl | rfl := ho <;> decide
  have hr : ¬ (fn = 0x40#8 ∨ fn = 0x50#8 ∨ fn = 0x60#8) := by obtain rfl | rfl := ho <;> decide
  rw [exec_frame hi, dispatch_of_declined (by rwa [he, byteAt_frameBytes_one]) hv, he,
    dispatchChecked_frameBytes_of_unhandled ha hr]
  rfl

/-- R172: a damaged frame that is not offered is discarded, whatever its type. -/
theorem exec_damaged (hi : isFrame i = true) (he : encode i = frameBytes fn p c) (ho : ¬ (fn = 0xE0#8 ∨ fn = 0xF0#8))
    {s : State} (hc : frameCheck s.params.crcInit (encode i) = false) :
    exec i s = .next { s with events := s.events ++ [.discard .crcMismatch (6 + p.length)] } := by
  rw [exec_frame hi, dispatch_of_not_offered (by rwa [he, byteAt_frameBytes_one]), dispatchChecked_of_damaged hc, he,
    frameError_frameBytes]

/-- R174: a CRC-valid report is parsed. -/
theorem exec_report (hi : isFrame i = true) (he : encode i = frameBytes fn p c)
    (hfn : fn = 0x40#8 ∨ fn = 0x50#8 ∨ fn = 0x60#8) {s : State} (hc : frameCheck s.params.crcInit (encode i) = true) :
    exec i s = .next (dispatchReport (frameBytes fn p c) s) := by
  have ho : ¬ (fn = 0xE0#8 ∨ fn = 0xF0#8) := by obtain rfl | rfl | rfl := hfn <;> decide
  have ha : ¬ (fn = 0x11#8 ∨ fn = 0xF1#8) := by obtain rfl | rfl | rfl := hfn <;> decide
  rw [exec_frame hi, dispatch_of_not_offered (by rwa [he, byteAt_frameBytes_one]),
    dispatchChecked_of_report hc (by rwa [he, byteAt_frameBytes_one]) (by rwa [he, byteAt_frameBytes_one]), he]

/-- R174: the records of a report whose payload holds whole records. -/
theorem dispatchReport_of_records (h : p.length % 6 = 0) (s : State) :
    dispatchReport (frameBytes fn p c) s =
      { s with events := s.events ++ [.report fn ((List.range (p.length / 6)).map (reportRecord p))] } := by
  simp only [dispatchReport, payloadOf_frameBytes, parseReport_of_dvd h]
  rfl

theorem dispatchReport_of_malformed (h : p.length % 6 ≠ 0) (s : State) :
    dispatchReport (frameBytes fn p c) s = { s with events := s.events ++ [.discard .malformed (6 + p.length)] } := by
  simp only [dispatchReport, payloadOf_frameBytes, parseReport_of_not_dvd h, frameError_frameBytes]

/-- R173: a CRC-valid acknowledgement is correlated. -/
theorem exec_ack (hi : isFrame i = true) (he : encode i = frameBytes fn p c) (hfn : fn = 0x11#8 ∨ fn = 0xF1#8) {s : State}
    (hc : frameCheck s.params.crcInit (encode i) = true) : exec i s = .next (correlate (encode i) s) := by
  have ho : ¬ (fn = 0xE0#8 ∨ fn = 0xF0#8) := by obtain rfl | rfl := hfn <;> decide
  rw [exec_frame hi, dispatch_of_not_offered (by rwa [he, byteAt_frameBytes_one]),
    dispatchChecked_of_ack hc (by rwa [he, byteAt_frameBytes_one])]

/-- R174, R172 for each report type. -/
theorem exec_report_cases (hi : isFrame i = true) (he : encode i = frameBytes fn p c)
    (hfn : fn = 0x40#8 ∨ fn = 0x50#8 ∨ fn = 0x60#8) (s : State) :
    (frameCheck s.params.crcInit (encode i) = true → p.length % 6 = 0 →
      exec i s = .next { s with events := s.events ++ [.report fn ((List.range (p.length / 6)).map (reportRecord p))] }) ∧
    (frameCheck s.params.crcInit (encode i) = true → p.length % 6 ≠ 0 →
      exec i s = .next { s with events := s.events ++ [.discard .malformed (6 + p.length)] }) ∧
    (frameCheck s.params.crcInit (encode i) = false →
      exec i s = .next { s with events := s.events ++ [.discard .crcMismatch (6 + p.length)] }) := by
  refine ⟨fun hc h => ?_, fun hc h => ?_, exec_damaged hi he (by obtain rfl | rfl | rfl := hfn <;> decide)⟩
  · rw [exec_report hi he hfn hc, dispatchReport_of_records h]
  · rw [exec_report hi he hfn hc, dispatchReport_of_malformed h]

/-- R197, R172 for each acknowledgement type. -/
theorem exec_ack_cases (hi : isFrame i = true) (he : encode i = frameBytes fn p c) (hfn : fn = 0x11#8 ∨ fn = 0xF1#8)
    (s : State) :
    (∀ older e newer, frameCheck s.params.crcInit (encode i) = true → s.pend = older ++ e :: newer →
      (∀ x ∈ older, matchesFrame (encode i) x = false) → matchesFrame (encode i) e = true →
      exec i s = .next { s with
        pend := older ++ newer
        events := s.events ++ [.completion e.id (responseFor s.params.crcInit (encode i) e)] }) ∧
    (frameCheck s.params.crcInit (encode i) = true → (∀ x ∈ s.pend, matchesFrame (encode i) x = false) →
      exec i s = .next { s with events := s.events ++ [.discard .unmatched (6 + p.length)] }) ∧
    (frameCheck s.params.crcInit (encode i) = false →
      exec i s = .next { s with events := s.events ++ [.discard .crcMismatch (6 + p.length)] }) := by
  refine ⟨fun older e newer hc hp ho hm => ?_, fun hc hn => ?_,
    exec_damaged hi he (by obtain rfl | rfl := hfn <;> decide)⟩
  · rw [exec_ack hi he hfn hc, correlate_of_oldest hp ho hm]
  · rw [exec_ack hi he hfn hc, correlate_of_unmatched hn, he, frameError_frameBytes]

end

/-- Settles O29. -/
theorem outboundTypesAreDropped : Obligations.OutboundTypesAreDropped := by
  intro p c s i hi
  simp only [List.mem_cons, List.not_mem_nil, or_false] at hi
  obtain rfl | rfl | rfl | rfl := hi <;>
    exact exec_unhandled rfl rfl (by decide) (by decide) (by decide) s

/-- Settles O30. -/
theorem handshakeFramesAreOffered : Obligations.HandshakeFramesAreOffered := by
  intro p c s i hi
  simp only [List.mem_cons, List.not_mem_nil, or_false] at hi
  obtain rfl | rfl := hi
  · exact ⟨exec_consumed rfl rfl (.inl rfl), exec_declined rfl rfl (.inl rfl)⟩
  · exact ⟨exec_consumed rfl rfl (.inr rfl), exec_declined rfl rfl (.inr rfl)⟩

/-- Settles O31. -/
theorem reportsAreDelivered : Obligations.ReportsAreDelivered := by
  intro p c s x hx
  simp only [List.mem_cons, List.not_mem_nil, or_false] at hx
  obtain rfl | rfl | rfl := hx
  · exact exec_report_cases rfl rfl (.inl rfl) s
  · exact exec_report_cases rfl rfl (.inr (.inl rfl)) s
  · exact exec_report_cases rfl rfl (.inr (.inr rfl)) s

/-- Settles O33. -/
theorem acknowledgementsCompleteTheOldestMatch : Obligations.AcknowledgementsCompleteTheOldestMatch := by
  intro p c s i hi
  simp only [List.mem_cons, List.not_mem_nil, or_false] at hi
  obtain rfl | rfl := hi
  · exact exec_ack_cases rfl rfl (.inl rfl) s
  · exact exec_ack_cases rfl rfl (.inr rfl) s

end Sys2Proof.Machine

/-! SUPPORT. The statements of 42_correlator.md on issuing and sending: the id that `ALLOC_ID` takes (O38), an accepted
`ISSUE_*` (O37), a held one (O39, O51), and `SEND` (O41). -/

namespace Sys2Proof.Machine

/-! ### ALLOC_ID -/

/-- R203: past the first turn the candidates are residues, whatever the id counter holds. -/
theorem idCandidate_of_pos (m : Nat) {j : Nat} (h : 0 < j) (c : Nat) : idCandidate m c j = (c + j) % m := by
  induction j generalizing c with
  | zero => omega
  | succ j ih =>
    rw [idCandidate]
    obtain rfl | hj := Nat.eq_zero_or_pos j
    · rfl
    · rw [ih hj, Nat.mod_add_mod, Nat.add_assoc, Nat.add_comm 1]

theorem idCandidate_modEq (m c j : Nat) : idCandidate m c j ≡ c + j [MOD m] := by
  obtain rfl | hj := Nat.eq_zero_or_pos j
  · rfl
  · rw [idCandidate_of_pos m hj]
    exact Nat.mod_modEq _ m

/-- The first `m` candidates are distinct. -/
theorem idCandidate_inj {m c i j : Nat} (hi : i < m) (hj : j < m) (h : idCandidate m c i = idCandidate m c j) : i = j := by
  have hij : c + i ≡ c + j [MOD m] := (idCandidate_modEq m c i).symm.trans (h ▸ idCandidate_modEq m c j)
  exact Nat.ModEq.eq_of_lt_of_lt (Nat.ModEq.add_left_cancel' c hij) hi hj

/-- R203: while fewer than `2^ID_W` entries live, an id is found, since the search tries one candidate more than there are
entries. -/
theorem allocId_of_free {s : State} (h : s.pend.length < 2 ^ s.params.idW) : ∃ id, allocId s = some id := by
  cases ha : allocId s with
  | some id => exact ⟨id, rfl⟩
  | none =>
    exfalso
    have hlive := searchId_none ha
    have hnd : ((List.range (s.pend.length + 1)).map (idCandidate (2 ^ s.params.idW) s.nextId)).Nodup := by
      refine List.nodup_range.map_on fun i hi j hj hij => idCandidate_inj ?_ ?_ hij
      · exact Nat.lt_of_lt_of_le (List.mem_range.1 hi) h
      · exact Nat.lt_of_lt_of_le (List.mem_range.1 hj) h
    have hsub : (List.range (s.pend.length + 1)).map (idCandidate (2 ^ s.params.idW) s.nextId) ⊆ liveIds s.pend := by
      intro x hx
      obtain ⟨j, hj, rfl⟩ := List.mem_map.1 hx
      exact hlive j (List.mem_range.1 hj)
    have hle := (hnd.subperm hsub).length_le
    simp only [liveIds, List.length_map, List.length_range] at hle
    omega

/-- R190: what is accepted of an `ISSUE` is registered under the allocated id. -/
theorem issue_accepted_nextId {request : Request} {frame : Bytes} {timeout id : Nat} {s t : State} (ha : allocId s = some id)
    (h : issue request frame timeout s = .next t) (hr : t.reply = .accepted) : t.nextId = (id + 1) % 2 ^ s.params.idW := by
  obtain ⟨_, rfl⟩ | ⟨_, _, rfl⟩ | ⟨_, _, id', ha', rfl⟩ := issue_cases h
  · cases hr
  · cases hr
  · rw [Option.some.inj (ha.symm.trans ha'), State.register_nextId]

/-- Settles O38. -/
theorem allocIdTakesTheFirstFree : Obligations.AllocIdTakesTheFirstFree := by
  intro s hn hp
  obtain ⟨id, ha⟩ := allocId_of_free hp
  obtain ⟨j, _, hid, hfree, hlive⟩ := searchId_some ha
  refine ⟨id, j, ha, by rw [hid, idCandidate_of_lt hn], hfree, fun i hi => ?_, fun i t hi h hr => ?_⟩
  · rw [← idCandidate_of_lt hn]
    exact hlive i hi
  · obtain hrefuse | ⟨request, frame, timeout, hissue⟩ := exec_issue hi
    · rw [hrefuse] at h
      rw [next_eq h] at hr
      cases hr
    · rw [hissue] at h
      exact issue_accepted_nextId ha h hr

/-! ### ISSUE_* -/

/-- R132, R194: the `UPGRADE_CRC` frame of an image CRC. -/
theorem buildUpgradeCrcOf_eq (init imageCrc n : U16) : buildUpgradeCrcOf init imageCrc n =
    withCrc init ([0x5A#8, 0x31#8, 0x00#8, 0x04#8] ++ toBe16 imageCrc ++ toBe16 n) := by
  rw [buildUpgradeCrcOf, encodeFrame_of_length init _ (upgradeCrcPayload_length _ n), upgradeCrcPayload, ← List.append_assoc]
  rfl

/-- R193: with a chunk that one packet carries, `ISSUE_UPGRADE_DATA` runs the common part of R190 like the other three. -/
theorem exec_issueUpgradeData_of_fits (k : U16) {chunk : Bytes} (timeout : U32) (s : State) (h : chunk.length ≤ 2048) :
    exec (.issueUpgradeData k chunk timeout) s =
      issue (.upgradeData k) (packetFrame s.params k chunk) timeout.toNat s := by
  rw [← buildUpgradePacket_eq s.params k h]
  exact if_pos ((fitsChunk_iff chunk).2 h)

/-- What the common part of R190 does whatever the request and its frame, each of the four commands does. -/
theorem exec_issue_of_forall {s : State} {timeout : U32} {result : Request → Bytes → State}
    (h : ∀ request frame, issue request frame timeout.toNat s = .next (result request frame)) :
    (∀ a t, exec (.issueRead a t timeout) s = .next (result (.read a t)
      (withCrc s.params.crcInit ([0x5A#8, 0x10#8, 0x00#8, 0x02#8] ++ toBe16 a)))) ∧
    (∀ a (v : U32) t, exec (.issueWrite a v t timeout) s = .next (result (.write a t)
      (withCrc s.params.crcInit ([0x5A#8, 0x20#8, 0x00#8, 0x06#8] ++ toBe16 a ++
        toBe32 (BitVec.ofNat 32 (v.toNat % 2 ^ typeBits t)))))) ∧
    (∀ k (chunk : Bytes), chunk.length ≤ 2048 →
      exec (.issueUpgradeData k chunk timeout) s = .next (result (.upgradeData k) (packetFrame s.params k chunk))) ∧
    (∀ crc n, exec (.issueUpgradeCrc crc n timeout) s = .next (result .upgradeCrc
      (withCrc s.params.crcInit ([0x5A#8, 0x31#8, 0x00#8, 0x04#8] ++ toBe16 crc ++ toBe16 n)))) := by
  refine ⟨fun a t => ?_, fun a v t => ?_, fun k chunk hc => ?_, fun crc n => ?_⟩
  · rw [← buildRead_eq]
    exact h _ _
  · rw [← buildWrite_eq]
    exact h _ _
  · rw [exec_issueUpgradeData_of_fits k timeout s hc]
    exact h _ _
  · rw [← buildUpgradeCrcOf_eq]
    exact h _ _

theorem fitsTime_ne_false {p : Params} {timeout : Nat} (h : timeout < 2 ^ p.timeW) : fitsTime p timeout ≠ false := by
  rw [(fitsTime_iff p timeout).2 h]
  decide

section
variable {s : State} {timeout : U32}

/-- R190: with room in the table, a free id and a timeout that fits, the request is registered. -/
theorem issue_of_free_id {id : Nat} (hroom : s.params.nPending ≠ some s.pend.length)
    (hfit : timeout.toNat < 2 ^ s.params.timeW) (ha : allocId s = some id) (request : Request) (frame : Bytes) :
    issue request frame timeout.toNat s = .next (issued s id request timeout frame) := by
  rw [issue, if_neg (fitsTime_ne_false hfit), if_neg (mt (tableFull_iff _ _).1 hroom), ha]
  exact congrArg Host.Outcome.next (register_eq s id request timeout.toNat frame)

/-- R204: a full table holds. -/
theorem issue_of_full_table (hfull : s.params.nPending = some s.pend.length) (hfit : timeout.toNat < 2 ^ s.params.timeW)
    (request : Request) (frame : Bytes) : issue request frame timeout.toNat s = .next { s with reply := .held } := by
  rw [issue, if_neg (fitsTime_ne_false hfit), if_pos ((tableFull_iff _ _).2 hfull), hold_eq]

/-- Log entry 8: a table with every id live holds like a full one. -/
theorem issue_of_no_free_id (hroom : s.params.nPending ≠ some s.pend.length) (hfit : timeout.toNat < 2 ^ s.params.timeW)
    (ha : allocId s = none) (request : Request) (frame : Bytes) :
    issue request frame timeout.toNat s = .next { s with reply := .held } := by
  rw [issue, if_neg (fitsTime_ne_false hfit), if_neg (mt (tableFull_iff _ _).1 hroom), ha, hold_eq]

end

/-- Settles O37. -/
theorem issueRegistersAndSends : Obligations.IssueRegistersAndSends := by
  intro s timeout hroom hids hfit
  obtain ⟨id, ha⟩ := allocId_of_free hids
  exact ⟨id, allocId_fresh ha, exec_issue_of_forall (issue_of_free_id hroom hfit ha)⟩

/-- Settles O39. -/
theorem fullTableHolds : Obligations.FullTableHolds := fun _ _ hfull hfit =>
  exec_issue_of_forall (result := fun _ _ => _) (issue_of_full_table hfull hfit)

/-- R203: with every id live none is found, since what is found is live under no entry and fits its width. -/
theorem allocId_of_all_live {s : State} (hn : s.nextId < 2 ^ s.params.idW)
    (hlive : ∀ id, id < 2 ^ s.params.idW → id ∈ liveIds s.pend) : allocId s = none := by
  cases ha : allocId s with
  | none => rfl
  | some id => exact absurd (hlive id (allocId_lt hn ha)) (allocId_fresh ha)

/-- Settles O51. -/
theorem issueWithoutFreeIdHolds : Obligations.IssueWithoutFreeIdHolds := fun _ _ hroom hfit hn hlive =>
  exec_issue_of_forall (result := fun _ _ => _) (issue_of_no_free_id hroom hfit (allocId_of_all_live hn hlive))

/-! ### SEND -/

/-- Settles O41. -/
theorem sendOnlyTransmits : Obligations.SendOnlyTransmits := fun _ payload _ =>
  ⟨fun h => if_pos ((fitsLength_iff payload).2 h), fun h => if_neg (mt (fitsLength_iff payload).1 (Nat.not_le.2 h))⟩

end Sys2Proof.Machine

/-! SUPPORT. The statements of 42_correlator.md on acknowledgements and time: the match predicate (O32), the results that can arise
(O34), reads answered in any order (O35), and what `TICK` expires (O42, O43). -/

namespace Sys2Proof.Machine

/-! ### MATCH -/

section
variable (fn : Byte) (p : Bytes) (c : U16) {e : Entry}

theorem matchesFrame_of_read {a : U16} {t : DType} (h : e.request = .read a t) :
    matchesFrame (frameBytes fn p c) e = true ↔ (fn = 0x11#8 ∧ 2 ≤ p.length ∧ be16 (slice p 0 2) = a) := by
  simp [matchesFrame, h, and_assoc]

theorem matchesFrame_of_write {a : U16} {t : DType} (h : e.request = .write a t) :
    matchesFrame (frameBytes fn p c) e = true ↔ fn = 0xF1#8 := by
  simp [matchesFrame, h]

theorem matchesFrame_of_upgradeData {k : U16} (h : e.request = .upgradeData k) :
    matchesFrame (frameBytes fn p c) e = true ↔ (fn = 0xF1#8 ∧ 1 ≤ p.length ∧ byteAt p 0 = 0x30#8) := by
  simp [matchesFrame, h, and_assoc]

theorem matchesFrame_of_upgradeCrc (h : e.request = .upgradeCrc) :
    matchesFrame (frameBytes fn p c) e = true ↔ (fn = 0xF1#8 ∧ 1 ≤ p.length ∧ byteAt p 0 = 0x31#8) := by
  simp [matchesFrame, h, and_assoc]

end

/-- Settles O32. -/
theorem matchFollowsTheTable : Obligations.MatchFollowsTheTable := fun fn p c _ =>
  ⟨fun _ _ => matchesFrame_of_read fn p c, fun _ _ => matchesFrame_of_write fn p c,
    fun _ => matchesFrame_of_upgradeData fn p c, matchesFrame_of_upgradeCrc fn p c⟩

/-! ### The results of a match -/

section
variable {init : U16} {fn : Byte} {p : Bytes} {c : U16} {e : Entry}

/-- R196: the three kinds that await no data match `ACK_NO_DATA` alone. -/
theorem function_of_awaitingWrite (hm : matchesFrame (frameBytes fn p c) e = true) (hw : awaitingWrite e.request = true) :
    fn = 0xF1#8 := by
  cases hr : e.request with
  | read a t => rw [hr] at hw; cases hw
  | write a t => exact (matchesFrame_of_write fn p c hr).1 hm
  | upgradeData k => exact ((matchesFrame_of_upgradeData fn p c hr).1 hm).1
  | upgradeCrc => exact ((matchesFrame_of_upgradeCrc fn p c hr).1 hm).1

/-- R133 past its first tests, for the bytes of a frame. -/
theorem responseFor_of_checked (hc : frameCheck init (frameBytes fn p c) = true) :
    responseFor init (frameBytes fn p c) e =
      if fn = 0x11#8 then parseAckWithData p (awaitingWrite e.request) (expectedAddress e.request) (declaredType e.request)
      else if fn = 0xF1#8 then parseAckNoData p (awaitingWrite e.request)
      else .error .unknownResponseType := by
  rw [responseFor, parseResponse_of_checked _ _ _ (by rw [frameBytes_length]; omega) hc, byteAt_frameBytes_one,
    payloadOf_frameBytes]

/-- R197: the match has tested the address, so a read cannot get `AddressMismatch`. -/
theorem responseFor_of_read {a : U16} {t : DType} (hc : frameCheck init (frameBytes fn p c) = true)
    (hm : matchesFrame (frameBytes fn p c) e = true) (hr : e.request = .read a t) :
    responseFor init (frameBytes fn p c) e =
      if p.length = 6 then .readSuccess a (unpack (slice p 2 6) t) else .error .badLength := by
  obtain ⟨hfn, _, ha⟩ := (matchesFrame_of_read fn p c hr).1 hm
  rw [responseFor_of_checked hc, if_pos hfn, hr]
  simp only [parseAckWithData, awaitingWrite, expectedAddress, declaredType, Config.ackDataLen, ackAddress, ackRaw, ha,
    addressDiffers, bne_self_eq_false, Bool.false_eq_true, if_false, ne_eq, ite_not]

/-- R197: the kinds that `ACK_NO_DATA` answers. -/
theorem responseFor_of_awaitingWrite (hc : frameCheck init (frameBytes fn p c) = true)
    (hm : matchesFrame (frameBytes fn p c) e = true) (hw : awaitingWrite e.request = true) :
    responseFor init (frameBytes fn p c) e =
      if p.length ≠ 2 then .error .badLength
      else if byteAt p 1 = 0x00#8 then .statusSuccess 0x00#8
      else .error (.deviceError (byteAt p 0) (byteAt p 1)) := by
  have hfn := function_of_awaitingWrite hm hw
  rw [responseFor_of_checked hc, if_neg (by rw [hfn]; decide), if_pos hfn, hw]
  simp only [parseAckNoData, Config.ackNoDataLen, Config.statusOk, Bool.true_and, beq_iff_eq]
  by_cases hok : byteAt p 1 = 0x00#8
  · rw [if_pos hok, if_pos hok, hok]
  · rw [if_neg hok, if_neg hok]

end

/-- Settles O34. -/
theorem correlatedResultsAreThese : Obligations.CorrelatedResultsAreThese := fun _ _ _ _ _ hc hm =>
  ⟨fun _ _ => responseFor_of_read hc hm, responseFor_of_awaitingWrite hc hm⟩

/-! ### Reads answered in any order -/

section
variable (init address : U16) (raw : U32)

/-- R93: address and value are the six bytes of the payload. -/
theorem dataAck_payload_length : (toBe16 address ++ toBe32 raw).length = 6 := rfl

theorem encode_dataAck : encode (dataAck init address raw) = frameBytes 0x11#8 (toBe16 address ++ toBe32 raw)
    (crc16 init ([0x5A#8, 0x11#8, 0x00#8, 0x06#8] ++ toBe16 address ++ toBe32 raw)) := rfl

theorem frameCheck_dataAck : frameCheck init (encode (dataAck init address raw)) = true := by
  rw [encode_dataAck, frameCheck_frameBytes, dataAck_payload_length, List.append_assoc]
  rfl

/-- R93, R196: the acknowledgement of an address matches the reads of that address. -/
theorem matchesFrame_dataAck {e : Entry} {a : U16} {t : DType} (h : e.request = .read a t) :
    matchesFrame (encode (dataAck init address raw)) e = true ↔ address = a := by
  have hs : slice (toBe16 address ++ toBe32 raw) 0 2 = toBe16 address := rfl
  rw [encode_dataAck, matchesFrame_of_read _ _ _ h, hs, be16_toBe16]
  simp

/-- R197: a read that an acknowledgement answers gets the value in it. -/
theorem responseFor_dataAck {e : Entry} {t : DType} (h : e.request = .read address t) :
    responseFor init (encode (dataAck init address raw)) e = .readSuccess address (unpack (toBe32 raw) t) := by
  have hc := frameCheck_dataAck init address raw
  have hm := (matchesFrame_dataAck init address raw h).2 rfl
  rw [encode_dataAck] at hc hm ⊢
  exact (responseFor_of_read hc hm h).trans (if_pos (dataAck_payload_length address raw))

end

/-- R206, one answer: the read it is for leaves the table with its value, whatever reads of other addresses stand before it. -/
theorem exec_dataAck {s : State} {older newer : List Entry} {e : Entry} {address : Entry → U16} {type : Entry → DType}
    (raw : U32) (hp : s.pend = older ++ e :: newer) (hr : ∀ x ∈ s.pend, x.request = .read (address x) (type x))
    (hd : ∀ x ∈ older, address x ≠ address e) :
    exec (dataAck s.params.crcInit (address e) raw) s = .next { s with
      pend := older ++ newer
      events := s.events ++ [.completion e.id (.readSuccess (address e) (unpack (toBe32 raw) (type e)))] } := by
  have hre : e.request = .read (address e) (type e) := hr e (by simp [hp])
  rw [exec_ack rfl (encode_dataAck _ _ _) (.inl rfl) (frameCheck_dataAck _ _ _), correlate_of_oldest hp,
    responseFor_dataAck _ _ _ hre]
  · intro x hx
    rw [Bool.eq_false_iff, ne_eq, matchesFrame_dataAck _ _ _ (hr x (by simp [hp, hx]))]
    exact fun h => hd x hx h.symm
  · exact (matchesFrame_dataAck _ _ _ hre).2 rfl

/-- Settles O35, by induction on the order of the answers: the first takes its read out of the table, and the others answer
what is left. -/
theorem concurrentReadsGetTheirValues : Obligations.ConcurrentReadsGetTheirValues := by
  intro s order address type raw hr hd hperm
  induction order generalizing s with
  | nil =>
    have hnil : s.pend = [] := hperm.symm.eq_nil
    rw [List.map_nil, List.map_nil, List.append_nil, ← hnil]
    rfl
  | cons e order ih =>
    obtain ⟨older, newer, hp⟩ := List.append_of_mem (hperm.subset List.mem_cons_self)
    rw [hp] at hd hperm
    have hrest : order.Perm (older ++ newer) := (hperm.trans List.perm_middle).cons_inv
    have hdist : (address e :: (older ++ newer).map address).Nodup :=
      (List.perm_middle.map address).nodup_iff.1 hd
    obtain ⟨hne, hd'⟩ := List.nodup_cons.1 hdist
    have hexec := exec_dataAck (raw e) hp hr fun x hx heq =>
      hne (heq ▸ List.mem_map_of_mem (List.mem_append_left newer hx))
    have hr' : ∀ x ∈ older ++ newer, x.request = .read (address x) (type x) := fun x hx =>
      hr x (hp ▸ List.perm_middle.symm.subset (List.mem_cons_of_mem e hx))
    simp only [List.map_cons, execAll, hexec]
    refine (ih { s with pend := older ++ newer, events := s.events ++ [_] } hr' hd' hrest).trans ?_
    rw [List.append_assoc, List.singleton_append]

/-! ### TICK -/

/-- Settles O42. -/
theorem tickExpiresEntries : Obligations.TickExpiresEntries := by
  intro s now' out
  have hout : out = expired s.params now' := by
    funext e
    rw [Bool.eq_iff_iff, expired_iff, decide_eq_true_iff]
  rw [exec_tick_eq, hout]
  rfl

/-! ### The life of an entry -/

theorem execAll_ticks (k : Nat) (s : State) : execAll (List.replicate k .tick) s = .next (State.ticked^[k] s) := by
  induction k generalizing s with
  | zero => rfl
  | succ k ih =>
    rw [List.replicate_succ, Function.iterate_succ_apply, ← ih, execAll, exec_tick_eq]

theorem ticks_params (k : Nat) (s : State) : (State.ticked^[k] s).params = s.params := by
  induction k with
  | zero => rfl
  | succ k ih => rw [Function.iterate_succ_apply']; exact ih

theorem ticks_now (k : Nat) {s : State} (h : s.now < 2 ^ s.params.timeW) :
    (State.ticked^[k] s).now = (s.now + k) % 2 ^ s.params.timeW := by
  induction k with
  | zero => exact (Nat.mod_eq_of_lt h).symm
  | succ k ih =>
    have hn : (State.ticked (State.ticked^[k] s)).now = ((State.ticked^[k] s).now + 1) % 2 ^ (State.ticked^[k] s).params.timeW :=
      rfl
    rw [Function.iterate_succ_apply', hn, ih, ticks_params, Nat.mod_add_mod, Nat.add_assoc]

/-- R200: the wrap of `now` does not show in the elapsed ticks, but that they are counted modulo `2^TIME_W`. -/
theorem elapsed_add (p : Params) (now k : Nat) : elapsed p ((now + k) % 2 ^ p.timeW) now = k % 2 ^ p.timeW := by
  have hk : (((now + k) % 2 ^ p.timeW : Nat) : Int) - now ≡ (k : Int) [ZMOD ((2 ^ p.timeW : Nat) : Int)] := by
    rw [Int.natCast_mod, Int.natCast_add]
    simpa using (Int.mod_modEq ((now : Int) + k) ((2 ^ p.timeW : Nat) : Int)).sub_right (now : Int)
  rw [elapsed, hk, ← Int.natCast_mod, Int.toNat_natCast]

/-- R200: an entry stamped with `now` is there after `k` ticks if it was there, and none of the ticks has reached its
timeout. -/
theorem mem_ticks_iff {s : State} {e : Entry} (hn : s.now < 2 ^ s.params.timeW) (hs : e.creationTime = s.now) (k : Nat) :
    e ∈ (State.ticked^[k] s).pend ↔ e ∈ s.pend ∧ ∀ j, j < k → (j + 1) % 2 ^ s.params.timeW < e.timeout := by
  induction k with
  | zero => simp
  | succ k ih =>
    have hstep : e ∈ (State.ticked (State.ticked^[k] s)).pend ↔
        e ∈ (State.ticked^[k] s).pend ∧ (k + 1) % 2 ^ s.params.timeW < e.timeout := by
      have hnow := ticks_now (k + 1) hn
      rw [Function.iterate_succ_apply'] at hnow
      rw [State.ticked, List.mem_filter, Bool.not_eq_true', expired, decide_eq_false_iff_not, Nat.not_le]
      rw [show (State.ticked^[k] s).advance.now = _ from hnow, ticks_params, hs, elapsed_add]
    rw [Function.iterate_succ_apply', hstep, ih, and_assoc, Nat.forall_lt_succ_right]

/-- Settles O43: before its timeout the ticks have not wrapped, and the tick that reaches it, or the first, takes it out. -/
theorem entryLivesForItsTimeout : Obligations.EntryLivesForItsTimeout := by
  intro s t e k hn he hs hfit hrun
  rw [execAll_ticks] at hrun
  rw [next_eq hrun, mem_ticks_iff hn hs]
  constructor
  · rintro ⟨_, hlive⟩
    by_contra hc
    have hlast := hlive (e.timeout - 1) (by omega)
    obtain h0 | hpos := Nat.eq_zero_or_pos e.timeout
    · omega
    · rw [Nat.sub_add_cancel hpos, Nat.mod_eq_of_lt hfit] at hlast
      omega
  · intro hk
    refine ⟨he, fun j hj => Nat.lt_of_le_of_lt (Nat.mod_le _ _) (by omega)⟩

end Sys2Proof.Machine

/-! SUPPORT. The statement of 42_correlator.md on the balance of a run (O44): every instruction but `RESET` adds as many issues as
completions and live entries. -/

namespace Sys2Proof.Machine

/-! ### The counts -/

section
variable (id : Nat)

@[simp] theorem acksOf_append (es fs : List Event) : acksOf id (es ++ fs) = acksOf id es + acksOf id fs := List.countP_append

@[simp] theorem completionsOf_append (es fs : List Event) :
    completionsOf id (es ++ fs) = completionsOf id es + completionsOf id fs := List.countP_append

theorem completionsOf_cons (e : Event) (es : List Event) :
    completionsOf id (e :: es) = completionsOf id es + if isCompletion id e = true then 1 else 0 := List.countP_cons

theorem liveCount_eq_countP (pend : List Entry) : liveCount id pend = pend.countP (·.id == id) := by
  rw [liveCount, liveIds, List.count, List.countP_map]
  rfl

@[simp] theorem liveCount_append (ps qs : List Entry) : liveCount id (ps ++ qs) = liveCount id ps + liveCount id qs := by
  simp only [liveCount_eq_countP, List.countP_append]

theorem liveCount_singleton (e : Entry) : liveCount id [e] = if e.id = id then 1 else 0 := by
  simp [liveCount_eq_countP, List.countP_singleton]

/-- An entry that leaves the table is counted no more. -/
theorem liveCount_erase {pend : List Entry} {e : Entry} (h : e ∈ pend) :
    liveCount id pend = liveCount id (pend.erase e) + liveCount id [e] := by
  rw [← liveCount_append]
  simp only [liveCount_eq_countP]
  exact ((List.perm_cons_erase h).trans (List.perm_append_singleton e _).symm).countP_eq _

/-- As many entries of an id as completions of them, one for each. -/
theorem completionsOf_map (es : List Entry) (r : Entry → Result) :
    completionsOf id (es.map fun e => .completion e.id (r e)) = liveCount id es := by
  rw [completionsOf, List.countP_map, liveCount_eq_countP]
  rfl

theorem acksOf_map_completion (es : List Entry) (r : Entry → Result) :
    acksOf id (es.map fun e => .completion e.id (r e)) = 0 := by
  simp [acksOf, List.countP_map]

/-- An event that neither tells an id nor completes one: all but `IssueAck` and `Completion`. -/
def Event.uncounted : Event → Bool
  | .issueAck _ => false
  | .completion _ _ => false
  | .tx _ | .hsOffer _ _ | .report _ _ | .discard _ _ | .ret _ => true

theorem counts_of_uncounted {e : Event} (h : e.uncounted = true) : acksOf id [e] = 0 ∧ completionsOf id [e] = 0 := by
  cases e with
  | issueAck _ => cases h
  | completion _ _ => cases h
  | tx _ | hsOffer _ _ | report _ _ | discard _ _ | ret _ => exact ⟨by simp [acksOf], rfl⟩

end

/-! ### The balance -/

/-- From `s` to `t` the issues added are the completions added and the live entries added (R190, R201). -/
def Balanced (id : Nat) (s t : State) : Prop :=
  acksOf id t.events + completionsOf id s.events + liveCount id s.pend =
    acksOf id s.events + completionsOf id t.events + liveCount id t.pend

section
variable {id : Nat} {s t u : State}

/-- What touches neither the table nor the events keeps the balance. -/
theorem Balanced.of_same (hp : t.pend = s.pend) (he : t.events = s.events) : Balanced id s t := by
  rw [Balanced, hp, he]

theorem Balanced.trans (h : Balanced id s t) (k : Balanced id t u) : Balanced id s u := by
  unfold Balanced at *
  omega

theorem Balanced.emit {e : Event} (h : e.uncounted = true) (s : State) : Balanced id s (s.emit e) := by
  obtain ⟨ha, hc⟩ := counts_of_uncounted id h
  simp only [Balanced, State.emit_events, State.emit_pend, acksOf_append, completionsOf_append, ha, hc]
  omega

/-- R197, R200: a live entry leaves the table with its completion. -/
theorem Balanced.complete {e : Entry} (he : e ∈ s.pend) (r : Result) : Balanced id s (s.complete e r) := by
  have hl := liveCount_erase id he
  have hc : completionsOf id [.completion e.id r] = liveCount id [e] := completionsOf_map id [e] fun _ => r
  have ha : acksOf id [.completion e.id r] = 0 := acksOf_map_completion id [e] fun _ => r
  simp only [Balanced, State.complete_events, State.complete_pend, acksOf_append, completionsOf_append, ha, hc]
  omega

/-- R190: an entry comes into the table with its `IssueAck`. -/
theorem Balanced.register (s : State) (k : Nat) (request : Request) (timeout : Nat) (frame : Bytes) :
    Balanced id s (s.register k request timeout frame) := by
  have ha : acksOf id [.issueAck k] = liveCount id [newEntry s k request timeout] := by
    rw [liveCount_singleton, newEntry_id]
    by_cases hk : k = id <;> simp [acksOf, hk]
  have hc : completionsOf id [.issueAck k] = 0 := rfl
  obtain ⟨htx, htxc⟩ := counts_of_uncounted id (e := .tx frame) rfl
  simp only [Balanced, State.register_events, State.register_pend, acksOf_append, completionsOf_append, liveCount_append,
    ha, hc, htx, htxc]
  omega

/-! ### The balance of each operation -/

theorem Balanced.correlate (f : Bytes) (s : State) : Balanced id s (Machine.correlate f s) := by
  obtain ⟨older, e, newer, hp, _, _, h⟩ | ⟨_, h⟩ := correlate_cases f s <;> rw [h]
  · exact .complete (by simp [hp]) _
  · exact .emit rfl s

theorem Balanced.dispatchReport (f : Bytes) (s : State) : Balanced id s (Machine.dispatchReport f s) := by
  obtain ⟨_, _, h⟩ | ⟨_, h⟩ := dispatchReport_cases f s <;> rw [h] <;> exact .emit rfl s

theorem Balanced.dispatchChecked (f : Bytes) (s : State) : Balanced id s (Machine.dispatchChecked f s) := by
  obtain ⟨_, h⟩ | ⟨_, _, h⟩ | ⟨_, _, h⟩ | ⟨_, h⟩ := dispatchChecked_cases f s <;> rw [h]
  · exact .emit rfl s
  · exact .correlate f s
  · exact .dispatchReport f s
  · exact .emit rfl s

theorem Balanced.offer (f : Bytes) (ok : Bool) (s : State) : Balanced id s (s.offer f ok) :=
  .emit (s := { s with verdicts := s.verdicts.tail, offers := s.offers + 1 }) rfl

theorem Balanced.dispatch (f : Bytes) (s : State) : Balanced id s (Machine.dispatch f s) := by
  obtain ⟨_, ⟨_, h⟩ | ⟨_, h⟩⟩ | ⟨_, h⟩ := dispatch_cases f s <;> rw [h]
  · exact .offer f _ s
  · exact (Balanced.offer f _ s).trans (.dispatchChecked f _)
  · exact .dispatchChecked f s

theorem Balanced.runAction (s : State) (a : Action) : Balanced id s (Machine.runAction s a) := by
  cases a with
  | drop reason n => exact (Balanced.emit rfl s).trans (.of_same (State.dropBytes_pend _ n) (State.dropBytes_events _ n))
  | cut f =>
    exact (Balanced.dispatch f s).trans (.of_same (State.dropBytes_pend _ _) (State.dropBytes_events _ _))

theorem Balanced.runActions (acts : List Action) (s : State) : Balanced id s (Machine.runActions s acts) := by
  induction acts generalizing s with
  | nil => exact .of_same rfl rfl
  | cons a acts ih => exact (Balanced.runAction s a).trans (ih _)

/-- R200: the entries of the table are those that stay and those that a tick completes. -/
theorem Balanced.ticked (s : State) : Balanced id s s.ticked := by
  have hsplit : liveCount id s.pend = liveCount id (s.pend.filter (expired s.params s.advance.now)) +
      liveCount id (s.pend.filter fun e => !expired s.params s.advance.now e) := by
    simp only [liveCount_eq_countP]
    exact List.countP_eq_countP_filter_add _ _ _
  simp only [Balanced, State.ticked, acksOf_append, completionsOf_append, completionsOf_map, acksOf_map_completion]
  omega

theorem Balanced.answered (s : State) (answer : Option RetVal) : Balanced id s (s.answered answer) := by
  cases answer with
  | some v => exact (Balanced.emit (e := .ret v) rfl s).trans (.of_same (State.accept_pend _) (State.accept_events _))
  | none => exact .of_same (State.refuse_pend s) (State.refuse_events s)

/-! ### The balance of each instruction -/

theorem Balanced.of_issue {request : Request} {frame : Bytes} {timeout : Nat}
    (h : Machine.issue request frame timeout s = .next t) : Balanced id s t := by
  obtain ⟨_, rfl⟩ | ⟨_, _, rfl⟩ | ⟨_, _, k, _, rfl⟩ := issue_cases h
  · exact .of_same (State.refuse_pend s) (State.refuse_events s)
  · exact .of_same (State.hold_pend s) (State.hold_events s)
  · exact .register s k request timeout frame

/-- R195: `SEND` transmits or is refused. -/
theorem Balanced.of_send {fn : Byte} {payload : Bytes} (h : exec (.send fn payload) s = .next t) : Balanced id s t := by
  obtain ⟨hsend, hrefuse⟩ := sendOnlyTransmits fn payload s
  obtain hl | hl := Nat.lt_or_ge 65535 payload.length
  · rw [hrefuse hl] at h
    rw [next_eq h]
    exact .of_same rfl rfl
  · rw [hsend hl] at h
    rw [next_eq h]
    exact (Balanced.emit (e := .tx _) rfl s).trans (.of_same rfl rfl)

end

/-- Settles O44, by the shapes of the instruction set. -/
theorem oneCompletionPerIssue : Obligations.OneCompletionPerIssue := by
  intro i s t id hne h
  suffices hb : Balanced id s t from hb
  obtain hi | (hi | ⟨fn, payload, rfl⟩) | hi | ⟨b, rfl⟩ | rfl | rfl := instr_shapes i
  · rw [exec_frame hi] at h
    rw [next_eq h]
    exact .dispatch _ s
  · rw [exec_of_isPure hi] at h
    rw [next_eq h]
    exact .answered s _
  · exact .of_send h
  · obtain hr | ⟨request, frame, timeout, hr⟩ := exec_issue hi <;> rw [hr] at h
    · rw [next_eq h]
      exact .of_same (State.refuse_pend s) (State.refuse_events s)
    · exact .of_issue h
  · rw [exec_rxPush] at h
    rw [next_eq h]
    have hpush : Balanced id s (s.pushByte b) := .of_same (State.pushByte_pend s b) (State.pushByte_events s b)
    exact (hpush.trans (.runActions _ _)).trans (.of_same (State.accept_pend _) (State.accept_events _))
  · rw [exec_tick_eq] at h
    rw [next_eq h]
    exact .ticked s
  · exact absurd rfl hne

end Sys2Proof.Machine

/-! SUPPORT. The statements of 42_correlator.md on the requesters around the block: a calling thread takes its own completion (O58),
and a waiting transaction keeps its issuer (O60). -/

namespace Sys2Proof.Machine

/-! ### Completions told to calling threads -/

/-- R202: the signal of an id leaves alone who does not wait for it. -/
theorem onCompletion_of_not_waiting {id : Nat} {c : Caller} (h : c.phase ≠ .waiting id) (r : Result) :
    c.onCompletion id r = c := if_neg h

theorem onCompletion_of_waiting {id : Nat} {c : Caller} (h : c.phase = .waiting id) (r : Result) :
    c.onCompletion id r = { c with phase := .completed r } := if_pos h

section
variable {who : Issuer} {k : Nat} {c : Caller}

/-- Another's calling thread is left alone by events that complete no id it waits for. -/
theorem onEvents_callers_of_unconcerned (hw : who ≠ .caller k) {es : List Event} {a : Agents} (hc : a.callers[k]? = some c)
    (h : ∀ id r, .completion id r ∈ es → c.phase ≠ .waiting id) : (a.onEvents who es).1.callers[k]? = some c := by
  induction es generalizing a with
  | nil => exact hc
  | cons e es ih =>
    refine ih (a := (a.onEvent who e).1) ?_ fun id r hm => h id r (List.mem_cons_of_mem e hm)
    rw [onEvent_callers hw, hc]
    cases e with
    | completion id r => exact congrArg some (onCompletion_of_not_waiting (h id r List.mem_cons_self) r)
    | tx _ | issueAck _ | hsOffer _ _ | report _ _ | discard _ _ | ret _ => rfl

/-- Where no event completes its id, a waiting thread is unconcerned. -/
theorem unconcerned_of_completionsOf {id : Nat} (hp : c.phase = .waiting id) {es : List Event} (h : completionsOf id es = 0) :
    ∀ id' r, .completion id' r ∈ es → c.phase ≠ .waiting id' := by
  intro id' r hm hw
  have hid : id = id' := CallerPhase.waiting.inj (hp.symm.trans hw)
  have hno := List.countP_eq_zero.1 h _ hm
  simp [isCompletion, hid] at hno

/-- R202: the first completion of its id ends the wait, and what follows does not concern the thread. -/
theorem onEvents_callers_of_completion (hw : who ≠ .caller k) {id : Nat} (hp : c.phase = .waiting id) {before after : List Event}
    {a : Agents} (hc : a.callers[k]? = some c) (hb : completionsOf id before = 0) (r : Result) :
    (a.onEvents who (before ++ .completion id r :: after)).1.callers[k]? = some { c with phase := .completed r } := by
  have hbefore := onEvents_callers_of_unconcerned hw hc (unconcerned_of_completionsOf hp hb)
  rw [onEvents_append]
  refine onEvents_callers_of_unconcerned (a := ((a.onEvents who before).1.onEvent who (.completion id r)).1) hw ?_ (by simp)
  rw [onEvent_callers hw, hbefore]
  exact congrArg some (onCompletion_of_waiting hp r)

end

/-- R202: after a step that is no reset, a thread that did not issue its transaction is as the step's events left it. -/
theorem react_callers {y : System} {s' : State} {k : Nat} (hw : y.issuers.headD .other ≠ .caller k)
    (hr : nextInstr y.block ≠ some .reset) : (y.react s').agents.callers[k]? =
      (y.agents.onEvents (y.issuers.headD .other) (s'.events.drop y.block.events.length)).1.callers[k]? := by
  rw [System.react, System.answer_agents, Agents.react, onInput_callers hr, onReply_callers hw]

/-- Settles O58. -/
theorem callerGetsItsOwnCompletion : Obligations.CallerGetsItsOwnCompletion := by
  intro y z k id c hstep hr hw hc hp told
  obtain ⟨_, rfl⟩ | ⟨_, s', _, rfl⟩ := System.step_cases hstep
  · have hquiet : told = [] := List.drop_length
    refine ⟨fun _ => hc, fun before r after htold => ?_⟩
    rw [hquiet] at htold
    simp at htold
  · rw [react_callers hw hr]
    refine ⟨fun hno => onEvents_callers_of_unconcerned hw hc (unconcerned_of_completionsOf hp hno),
      fun before r after htold hb => ?_⟩
    rw [show s'.events.drop y.block.events.length = _ from htold]
    exact onEvents_callers_of_completion hw hp hc hb r

/-! ### The issuers of what waits -/

/-- R224: answers stand before what waits, each transaction with its issuer. -/
theorem zip_answer (y : System) (ps : List Placed) : (y.answer ps).issuers.zip (y.answer ps).block.inbox =
    (ps.map fun p => (p.1, encode p.2)) ++ y.issuers.zip y.block.inbox := by
  rw [System.answer_issuers, System.answer_block, List.zip_append (by simp), List.zip_map']

/-- R220: the agents' reactions to a step of the block are answers before what waits after it. -/
theorem react_eq_answer (y : System) (s' : State) : ∃ (agents : Agents) (answers : List Placed), y.react s' =
    System.answer { block := s', agents := agents, issuers := issuersAfter y.issuers s'.reply } answers := ⟨_, _, rfl⟩

/-- What waits after a step, each transaction with its issuer: a held one goes with its issuer behind the others (R204). -/
theorem zip_issuersAfter {issuers : List Issuer} {t : Bytes} {rest : List Bytes} (h : issuers.length = (t :: rest).length)
    (reply : Reply) :
    (issuersAfter issuers reply).zip (if reply = .held then rest ++ [t] else rest) =
      if reply = .held then (issuers.zip (t :: rest)).tail ++ (issuers.zip (t :: rest)).take 1
      else (issuers.zip (t :: rest)).tail := by
  obtain ⟨who, others, rfl⟩ := List.exists_cons_of_length_eq_add_one h
  have hl : others.length = rest.length := Nat.succ.inj h
  unfold issuersAfter
  split
  · exact List.zip_append hl
  · rfl

theorem issuersAfter_length {issuers : List Issuer} {t : Bytes} {rest : List Bytes} (h : issuers.length = (t :: rest).length)
    (reply : Reply) : (issuersAfter issuers reply).length = (if reply = .held then rest ++ [t] else rest).length := by
  unfold issuersAfter
  split <;> simp [h]

/-- Settles O60. -/
theorem transactionsKeepTheirIssuers : Obligations.TransactionsKeepTheirIssuers := by
  intro y z hlen hne hstep
  obtain ⟨hquiet, _⟩ | ⟨_, s', hs, rfl⟩ := System.step_cases hstep
  · exact absurd hquiet hne
  · obtain ⟨t, rest, hi⟩ := List.exists_cons_of_ne_nil hne
    rw [hi] at hlen
    obtain ⟨agents, answers, hreact⟩ := react_eq_answer y s'
    have hinbox := step_inbox hi hs
    rw [hreact]
    refine ⟨?_, answers, ?_⟩
    · simp [hinbox, issuersAfter_length hlen]
    · rw [zip_answer, hinbox, hi, zip_issuersAfter hlen]
      rfl

end Sys2Proof.Machine

/-! SUPPORT. The statements of 43_environment_agents.md on the agents' own rules: how an upgrade begins (O55), what answers a device
reset (O56), and the course of an upgrade whose acknowledgements are all `OK` (O57). -/

namespace Sys2Proof.Machine

/-! ### An upgrade begins -/

/-- An answer without commands leaves the ports alone: only the orchestrator itself changes. -/
theorem System.upgrade_of_silent {y : System} {image : Bytes} {u : Upgrade} (h : y.agents.upgrade.start image = (u, [])) :
    y.upgrade image = { y with agents := { y.agents with upgrade := u } } := by
  rw [System.upgrade, h]
  exact System.place_nil _

/-- R232: while an upgrade is under way another is turned away. -/
theorem Upgrade.start_of_underWay {u : Upgrade} (h : u.underWay = true) (image : Bytes) : u.start image = (u, []) := if_pos h

section
variable {u : Upgrade} {image : Bytes}

theorem Upgrade.start_of_not_underWay (h : u.underWay = false) :
    u.start image = Upgrade.begin { u with image := image, progress := none } := if_neg (Bool.eq_false_iff.1 h)

/-- R231. -/
theorem Upgrade.start_of_unaligned (h : u.underWay = false) (hl : image.length % 2048 ≠ 0) :
    u.start image = Upgrade.finish { u with image := image, progress := none } (.failed .sizeError) :=
  (Upgrade.start_of_not_underWay h).trans (if_pos hl)

/-- R59: an aligned image has more packets than a u16 counts, or its CRC is asked for. -/
theorem Upgrade.start_of_aligned (h : u.underWay = false) (hl : image.length % 2048 = 0) : u.start image =
    if 2048 * 65535 < image.length then Upgrade.finish { u with image := image, progress := none } (.failed .tooManyPackets)
    else Upgrade.askCrc { u with image := image, progress := none } := by
  have htotal : 65535 < image.length / 2048 ↔ 2048 * 65535 < image.length := by omega
  rw [Upgrade.start_of_not_underWay h, Upgrade.begin, if_neg (not_not.2 hl)]
  exact if_congr htotal rfl rfl

end

/-- Settles O55. -/
theorem unalignedImageFailsAtOnce : Obligations.UnalignedImageFailsAtOnce := by
  intro y image
  refine ⟨fun h hl => ?_, fun h hl hmany => ?_, fun h => ?_⟩
  · rw [System.upgrade_of_silent (Upgrade.start_of_unaligned h hl)]
    exact ⟨rfl, rfl⟩
  · rw [System.upgrade_of_silent ((Upgrade.start_of_aligned h hl).trans (if_pos hmany))]
    exact ⟨rfl, rfl⟩
  · exact System.upgrade_of_silent (Upgrade.start_of_underWay h image)

/-! ### A device reset is answered -/

/-- R171: an offered `MCU_RESET` leaves the controller as it is, whatever it answers. -/
theorem Handshake.onOffer_mcuReset (h : Handshake) {f : Bytes} (hf : byteAt f 1 = 0xF0#8) (ok : Bool) :
    h.onOffer f ok = (h, h.onMcuReset f ok) := by
  rw [Handshake.onOffer, hf]
  rfl

section
variable {h : Handshake}

/-- R224. -/
theorem Handshake.onMcuReset_valid (hp : h.autoReply = true) (f : Bytes) :
    h.onMcuReset f true = [.send 0xF0#8 (payloadOf f)] := by simp [Handshake.onMcuReset, hp]

/-- R225, with the function code that the reply names as D33 reads it. -/
theorem Handshake.onMcuReset_damaged (hp : h.autoReply = true) (f : Bytes) :
    h.onMcuReset f false = [.send 0xF1#8 (statusPayload 0xF0#8 0xF1#8)] := by simp [Handshake.onMcuReset, hp]

/-- R224: the policy is off. -/
theorem Handshake.onMcuReset_off (hp : h.autoReply = false) (f : Bytes) (ok : Bool) : h.onMcuReset f ok = [] := if_pos hp

end

/-- Settles O56: the echo is O14's, the status reply a `SEND` of two bytes (O41). -/
theorem deviceResetIsAnswered : Obligations.DeviceResetIsAnswered := by
  intro h f s hf hfn
  simp only [h.onOffer_mcuReset hfn]
  refine ⟨fun hp hc => ⟨_, by rw [h.onMcuReset_valid hp], ?_⟩, fun hp => ⟨_, by rw [h.onMcuReset_damaged hp], ?_⟩,
    fun hp ok => by rw [h.onMcuReset_off hp]⟩
  · rw [← hfn]
    exact (echoReproducesTheFrame f s hf.1 hc).2
  · exact (sendOnlyTransmits 0xF1#8 (statusPayload 0xF0#8 0xF1#8) s).1 (by decide)

/-! ### An upgrade whose acknowledgements are all OK -/

/-- The command that sends packet `i` of the image (R232). -/
def Upgrade.packetCommand (u : Upgrade) (i : Nat) : Instr :=
  .issueUpgradeData (BitVec.ofNat 16 i) (imageChunk u.image i) u.packetTimeout

/-- R59, R232: packet `i` carries the image's bytes from `2048 * i` on. -/
theorem Upgrade.packetCommand_eq (u : Upgrade) : u.packetCommand = fun i =>
    .issueUpgradeData (BitVec.ofNat 16 i) ((u.image.drop (2048 * i)).take 2048) u.packetTimeout :=
  funext fun i => by rw [Upgrade.packetCommand, imageChunk_eq]

/-- The command that confirms the image (R233). -/
def Upgrade.confirmCommand (u : Upgrade) (imageCrc : U16) : Instr :=
  .issueUpgradeCrc imageCrc (BitVec.ofNat 16 u.total) u.confirmTimeout

section
variable {u : Upgrade} {imageCrc : U16} {index attempt : Nat}

/-- R232: a packet that the image has is sent. -/
theorem Upgrade.next_of_lt (h : index < u.total) : u.next imageCrc index attempt =
    ({ u with phase := .packet imageCrc index 0 attempt, waiting := none }, [u.packetCommand index]) := if_pos h

/-- R233: behind the last packet stands the confirmation. -/
theorem Upgrade.next_of_total : u.next imageCrc u.total attempt =
    ({ u with phase := .confirm imageCrc attempt, waiting := none }, [u.confirmCommand imageCrc]) :=
  if_neg (Nat.lt_irrefl _)

/-- R202: the completion of the id that `IssueAck` has just told is the orchestrator's own. -/
theorem Upgrade.onCompletion_onAck_of_packet {resends : Nat} (h : u.phase = .packet imageCrc index resends attempt)
    (id : Nat) (r : Result) : (u.onAck id).onCompletion id r = (u.onAck id).onPacket imageCrc index resends attempt r := by
  simp [Upgrade.onCompletion, Upgrade.onAck, h]

theorem Upgrade.onCompletion_onAck_of_confirm (h : u.phase = .confirm imageCrc attempt) (id : Nat) (r : Result) :
    (u.onAck id).onCompletion id r = (u.onAck id).onConfirm imageCrc attempt r := by
  simp [Upgrade.onCompletion, Upgrade.onAck, h]

end

/-- R232 to R234 from packet `i` on, with `k` packets to go: these are sent in order, the confirmation follows, and the upgrade
succeeds; what was issued before stands first. -/
theorem allOk_next (imageCrc : U16) (attempt : Nat) (k : Nat) {u : Upgrade} {i : Nat} (h : i + k = u.total) (issued : List Instr) :
    allOk (k + 1) ((u.next imageCrc i attempt).1, issued ++ (u.next imageCrc i attempt).2) =
      ({ u with
          phase := .succeeded, waiting := none
          progress := if k = 0 then u.progress else some (u.total, u.total) },
        issued ++ (List.range' i k).map u.packetCommand ++ [u.confirmCommand imageCrc]) := by
  induction k generalizing u i issued with
  | zero =>
    obtain rfl : i = u.total := h
    rw [Upgrade.next_of_total, allOk, Upgrade.onCompletion_onAck_of_confirm rfl]
    simp [allOk, Upgrade.onConfirm, Upgrade.finish, Upgrade.onAck]
  | succ k ih =>
    have hrest := ih (u := { u with
        phase := .packet imageCrc i 0 attempt, waiting := some (k + 1), progress := some (i + 1, u.total) })
      (i := i + 1) (by rw [← Nat.add_right_comm]; exact h) (issued ++ [u.packetCommand i])
    rw [Upgrade.next_of_lt (by omega), allOk, Upgrade.onCompletion_onAck_of_packet rfl]
    refine hrest.trans (Prod.ext ?_ ?_)
    · have hlast : k = 0 → i + 1 = u.total := by omega
      by_cases hk : k = 0 <;> simp [hk, hlast, Upgrade.total]
    · simp only [List.range'_succ, List.map_cons, List.append_assoc, List.cons_append, List.nil_append]
      rfl

/-- The orchestrator that waits for the CRC of its image, whatever it did before. -/
def Upgrade.askedFor (u : Upgrade) (image : Bytes) : Upgrade :=
  { u with image := image, progress := none, phase := .crc, waiting := none }

section
variable {u : Upgrade} {image : Bytes}

/-- R194, R220: an image that the u16 fields can count is begun by asking for its CRC (P3, row 1). -/
theorem Upgrade.start_of_fitting (h : u.underWay = false) (hl : image.length % 2048 = 0) (hfew : image.length ≤ 2048 * 65535) :
    u.start image = (u.askedFor image, [.crc16 image]) := (Upgrade.start_of_aligned h hl).trans (if_neg (Nat.not_lt.2 hfew))

/-- With the CRC's value the first attempt begins (P3, row 2). -/
theorem Upgrade.onReturn_askedFor (hr : 0 < u.maxRetries) (imageCrc : U16) :
    (u.askedFor image).onReturn (.u16 imageCrc) = (u.askedFor image).next imageCrc 0 1 := by
  have hphase : (u.askedFor image).phase = .crc := rfl
  have hfirst : 1 ≤ (u.askedFor image).maxRetries := hr
  rw [Upgrade.onReturn, if_pos hphase, Upgrade.attempt, if_pos hfirst]

theorem startedWith_of_fitting (h : u.underWay = false) (hr : 0 < u.maxRetries) (hl : image.length % 2048 = 0)
    (hfew : image.length ≤ 2048 * 65535) (imageCrc : U16) : startedWith u image imageCrc =
      (((u.askedFor image).next imageCrc 0 1).1, [.crc16 image] ++ ((u.askedFor image).next imageCrc 0 1).2) := by
  simp only [startedWith, Upgrade.start_of_fitting h hl hfew, Upgrade.onReturn_askedFor hr]

end

/-- Settles O57: with the CRC known it is `allOk_next` from packet 0 on. -/
theorem acknowledgedUpgradeSucceeds : Obligations.AcknowledgedUpgradeSucceeds := by
  intro init u image n h hr hl hn
  have htotal : (u.askedFor image).total = n := (congrArg (· / 2048) hl).trans (Nat.mul_div_cancel_left n (by decide))
  rw [startedWith_of_fitting h hr (by omega) (by omega), allOk_next _ 1 n ((Nat.zero_add n).trans htotal.symm)]
  refine ⟨rfl, ?_, ?_⟩
  · simp only [htotal]
    rfl
  · simp only [Upgrade.packetCommand_eq, Upgrade.confirmCommand, htotal, List.range_eq_range']
    rfl

end Sys2Proof.Machine

/-! SUPPORT. The statement of 60_exceptions.md (O50): every instruction and every step has a next state, and of the instructions
only an `ISSUE_*` is held (R269). -/

namespace Sys2Proof.Machine

/-! ### A next state -/

theorem exec_issue_next {i : Instr} (h : isIssue i = true) (s : State) : ∃ t, exec i s = .next t := by
  obtain hr | ⟨request, frame, timeout, hr⟩ := exec_issue h <;> rw [hr]
  · exact ⟨_, rfl⟩
  · exact issue_next request (frame s.params) timeout s

/-- R269: no instruction ends in a fault or a refusal. -/
theorem exec_next (i : Instr) (s : State) : ∃ t, exec i s = .next t := by
  obtain hi | hi | hi | ⟨b, rfl⟩ | rfl | rfl := instr_shapes i
  · exact ⟨_, exec_frame hi s⟩
  · obtain ⟨t, ht, _⟩ := exec_told hi s
    exact ⟨t, ht⟩
  · exact exec_issue_next hi s
  · exact ⟨_, exec_rxPush b s⟩
  · exact ⟨_, exec_tick_eq s⟩
  · exact ⟨_, rfl⟩

/-- R269: nor does a step, since what it takes from the ports is refused, or run as an instruction. -/
theorem step_next (s : State) : ∃ t, step s = .next t := by
  obtain ⟨_, hf⟩ | ⟨t, rest, hs, hf⟩ := fetch_cases s
  · exact ⟨s, by simp only [step, hf]⟩
  · cases hd : decodeCommand t with
    | none => exact ⟨State.refuse { s with inbox := rest }, by simp only [step, hf, hd]⟩
    | some i =>
      obtain ⟨u, hu⟩ := exec_next i { s with inbox := rest }
      rw [step_of_decodes hs hd, hu, presentAgain_of_next]
      exact ⟨_, rfl⟩

/-! ### What is held -/

/-- A frame answers no transaction: its dispatch gives no reply. -/
@[simp] theorem dispatch_reply (f : Bytes) (s : State) : (dispatch f s).reply = s.reply := by
  obtain ⟨_, _, _, _, h⟩ := dispatch_touched f s
  rw [h]

/-- R138: a pure command returns or is refused; it is never held. -/
theorem State.answered_reply_ne_held (s : State) (answer : Option RetVal) : (s.answered answer).reply ≠ .held := by
  cases answer <;> nofun

/-- R195: a `SEND` is accepted or refused; it is never held. -/
theorem exec_send_reply_ne_held {fn : Byte} {payload : Bytes} {s t : State} (h : exec (.send fn payload) s = .next t) :
    t.reply ≠ .held := by
  obtain ⟨hsend, hrefuse⟩ := sendOnlyTransmits fn payload s
  obtain hl | hl := Nat.lt_or_ge 65535 payload.length
  · rw [next_eq ((hrefuse hl).symm.trans h)]
    nofun
  · rw [next_eq ((hsend hl).symm.trans h)]
    nofun

/-- R203, R204: what the common part of R190 holds is left as it was, on a full table or for want of an id. -/
theorem issue_held {request : Request} {frame : Bytes} {timeout : Nat} {s t : State}
    (h : issue request frame timeout s = .next t) (ht : t.reply = .held) :
    t = s.hold ∧ (s.params.nPending = some s.pend.length ∨ allocId s = none) := by
  obtain ⟨_, rfl⟩ | ⟨_, hwhy, rfl⟩ | ⟨_, _, _, _, rfl⟩ := issue_cases h
  · cases ht
  · exact ⟨rfl, hwhy⟩
  · cases ht

/-- An `ISSUE_*` is held by the common part of R190: its own operand limit refuses (R193). -/
theorem exec_issue_held {i : Instr} (hi : isIssue i = true) {s t : State} (h : exec i s = .next t) (ht : t.reply = .held) :
    t = s.hold ∧ (s.params.nPending = some s.pend.length ∨ allocId s = none) := by
  obtain hr | ⟨request, frame, timeout, hr⟩ := exec_issue hi <;> rw [hr] at h
  · rw [next_eq h] at ht
    cases ht
  · exact issue_held h ht

/-- R204: only an `ISSUE_*` is held. A frame keeps the reply that stands, and every other instruction gives another one. -/
theorem isIssue_of_newly_held {i : Instr} {s t : State} (h : exec i s = .next t) (hs : s.reply ≠ .held)
    (ht : t.reply = .held) : isIssue i = true := by
  obtain hi | (hi | ⟨fn, payload, rfl⟩) | hi | ⟨b, rfl⟩ | rfl | rfl := instr_shapes i
  · rw [exec_frame hi] at h
    rw [next_eq h, dispatch_reply] at ht
    exact absurd ht hs
  · rw [exec_of_isPure hi] at h
    rw [next_eq h] at ht
    exact absurd ht (s.answered_reply_ne_held _)
  · exact absurd ht (exec_send_reply_ne_held h)
  · exact hi
  · rw [exec_rxPush] at h
    rw [next_eq h] at ht
    cases ht
  · rw [exec_tick_eq] at h
    rw [next_eq h] at ht
    cases ht
  · rw [next_eq h] at ht
    cases ht

/-- Settles O50. -/
theorem theBlockNeverHalts : Obligations.TheBlockNeverHalts := by
  refine ⟨fun i s => ?_, step_next⟩
  obtain ⟨t, h⟩ := exec_next i s
  refine ⟨t, h, fun hs ht => ?_⟩
  have hi := isIssue_of_newly_held h hs ht
  obtain ⟨rfl, hwhy⟩ := exec_issue_held hi h ht
  exact ⟨hi, hold_eq s, hwhy.imp_right fun hnone hn => allocId_none hn hnone⟩

end Sys2Proof.Machine

/-! SUPPORT. The statements of 70_reset_and_hazards.md: a refusal leaves the reads in the table (O36), and `RESET` (O45). -/

namespace Sys2Proof.Machine

/-! ### Refused reads -/

/-- R197: a frame takes out of the table no entry that it does not match. -/
theorem mem_pendAfter_of_not_matchesFrame (init : U16) {f : Bytes} {e : Entry} {pend : List Entry} (he : e ∈ pend)
    (hm : ¬ matchesFrame f e = true) : e ∈ pendAfter init f pend := by
  unfold pendAfter
  split
  · exact (List.mem_eraseP_of_neg hm).2 he
  · exact he

/-- R196, R314: a read waits for the function code 0x11 alone, so an `ACK_NO_DATA` never matches it. -/
theorem not_matchesFrame_ackNoData_of_read {e : Entry} {a : U16} {ty : DType} (hr : e.request = .read a ty) (p : Bytes)
    (c : U16) : ¬ matchesFrame (encode (.ackNoData p c)) e = true := by
  intro hm
  obtain ⟨hcode, _⟩ := (matchesFrame_of_read 0xF1#8 p c hr).1 hm
  exact absurd hcode (by decide)

/-- Settles O36: what a frame does not match stays in the table, and an `ACK_NO_DATA` matches no read. -/
theorem refusalsLeaveReadsPending : Obligations.RefusalsLeaveReadsPending := by
  intro p c s t e a ty he hr h
  rw [exec_frame rfl] at h
  rw [next_eq h, dispatch_pend_eq]
  exact mem_pendAfter_of_not_matchesFrame _ he (not_matchesFrame_ackNoData_of_read hr p c)

/-! ### RESET -/

/-- Settles O45. -/
theorem resetClearsTheFourElements : Obligations.ResetClearsTheFourElements := exec_reset

end Sys2Proof.Machine
